-- ==== Sys2Proof/Word.lean ====
section
/-! DEFINITION. The word types of the block: bytes of the two buffers, 32-bit registers and command words,
and the 64-bit window (spec/00_scope.md R7, R13, R14). Everything is unsigned; nothing is sign-extended (R14). -/

namespace Sys2Proof

/-- A byte of a buffer (R21 "an ordered sequence of 8-bit unsigned values"). -/
abbrev Byte := BitVec 8

/-- A host-visible register, and a command word (R13, R100). -/
abbrev Word := BitVec 32

/-- The 64-bit window (R7). -/
abbrev DWord := BitVec 64

end Sys2Proof
end

