-- ==== Sys2Proof/Config.lean ====
section
/-! DEFINITION. What one implementation fixes and what the spec leaves open: the two capacities (R12) and the
contents of the two memories after a hard reset (R62). -/

namespace Sys2Proof

/-- The OPEN parameters of R12, the only values that differ between implementations (R4). They are an argument
of the model: State carries them, no step changes them, and a claim over all states is a claim over all of them. -/
structure Config where
  /-- SRC_BYTES, the capacity of the source byte memory. -/
  srcBytes : Nat
  /-- DST_BYTES, the capacity of the destination byte memory. -/
  dstBytes : Nat
deriving DecidableEq, Repr

/-- The bounds of R12: `1 <= SRC_BYTES <= 2^24` and `1 <= DST_BYTES <= 2^24`. -/
abbrev Config.Valid (c : Config) : Prop :=
  1 ≤ c.srcBytes ∧ c.srcBytes ≤ 2 ^ 24 ∧ 1 ≤ c.dstBytes ∧ c.dstBytes ≤ 2 ^ 24

/-- The reference configuration of R12 and of spec/95_test_vectors.md.
DESIGN CHOICE (log entry 2): it is the configuration of `State.reset`; no statement rests on it. -/
def Config.reference : Config := { srcBytes := 4096, dstBytes := 4096 }

/-- The byte that SRC holds at an offset after the hard reset number `epoch`, until the host writes it.
R62: "The contents of SRC and DST are UNSPECIFIED after a hard reset: a model draws each byte freely."
A free value (log entry 1): it has no body, so nothing can be proved about it. -/
opaque Config.srcDrawn : (epoch : Nat) → (offset : Nat) → Byte

/-- The byte that DST holds at an offset after the hard reset number `epoch`, until a command writes it.
A free value as `Config.srcDrawn` (R62, log entry 1). -/
opaque Config.dstDrawn : (epoch : Nat) → (offset : Nat) → Byte

end Sys2Proof
end

