-- ==== Sys2Proof/Syntax.lean ====
section
/-! DEFINITION. The command set NBITS-CORE version 7: one constructor per row of spec/opcode_table.json
(spec/30_encoding.md R101 to R110). -/

namespace Sys2Proof

/-- The eleven commands, each with the fields of its format (R101). Fields are the encoded numbers themselves,
unsigned and unscaled (R109). -/
inductive Instr where
  /-- NOP, format Z (R261). -/
  | nop
  /-- SOFT_RESET, format Z (R262). -/
  | softReset
  /-- WINDOW, format I: OFF = w[23:0], the starting byte offset (R103, R146). -/
  | window (off : BitVec 24)
  /-- SLICE_EXTRACT, format SX: N = w[5:0], OFF3 = w[10:8] (R107, R165). -/
  | sliceExtract (n : BitVec 6) (off3 : BitVec 3)
  /-- SLICE_MERGE, format SM: N = w[5:0], RL = w[10:8], RB = w[23:16] (R108, R167). -/
  | sliceMerge (n : BitVec 6) (rl : BitVec 3) (rb : BitVec 8)
  /-- UNPACK_BEGIN, format U: N = w[5:0], WC = w[9:8] (R104, R185). -/
  | unpackBegin (n : BitVec 6) (wc : BitVec 2)
  /-- UNPACK_NEXT, format Z (R187). -/
  | unpackNext
  /-- UNPACK_END, format Z (R189). -/
  | unpackEnd
  /-- PACK_BEGIN, format P: N = w[5:0], REM = w[13:8], RM = w[16] (R105, R226). -/
  | packBegin (n : BitVec 6) (rem : BitVec 6) (rm : Bool)
  /-- PACK_PUSH, format Z (R229). -/
  | packPush
  /-- PACK_END, format Z (R232). -/
  | packEnd
deriving DecidableEq, Repr

end Sys2Proof
end

