-- ==== Sys2Proof/WellFormed.lean ====
section
/-! DEFINITION. The field values that no legal command word holds (spec/30_encoding.md R111, points 3 and 4).
Every other restriction of R111 (the opcode, the reserved bits) is no term of `Instr` at all. -/

namespace Sys2Proof

/-- R106, R111.3: the width code 3 is reserved. -/
abbrev WidthCodeLegal (wc : BitVec 2) : Prop := wc ≠ 3#2

/-- R105, R111.4: when `RM = 0`, REM must also be 0. -/
abbrev RemainFieldLegal (rem : BitVec 6) (rm : Bool) : Prop := rm = false → rem = 0#6

/-- An instruction that some legal command word encodes. A group width out of range is well-formed: it is
encodable, and raises CONFIG when executed (R109). -/
abbrev Instr.WellFormed : Instr → Prop
  | .nop => True
  | .softReset => True
  | .window _ => True
  | .sliceExtract _ _ => True
  | .sliceMerge _ _ _ => True
  | .unpackBegin _ wc => WidthCodeLegal wc
  | .unpackNext => True
  | .unpackEnd => True
  | .packBegin _ rem rm => RemainFieldLegal rem rm
  | .packPush => True
  | .packEnd => True

end Sys2Proof
end

