-- ==== Sys2Proof/Decode.lean ====
section
/-! DEFINITION. The decoder of spec/30_encoding.md R112, total on every 32-bit word, and after it the encoder
written from the formats of R101 to R110 and R113. -/

namespace Sys2Proof

/-- Why a word is ILLEGAL, in the order in which R290.1 lists the checks. All three give the one error code
ILLEGAL (R281). -/
inductive IllegalReason where
  /-- R111.1: OP is not in the map of R110. -/
  | unassignedOpcode
  /-- R111.2: a reserved bit of the format is 1. -/
  | reservedBit
  /-- R111.3 and R111.4: WC = 3 in format U, or REM != 0 with RM = 0 in format P. -/
  | reservedFieldValue
deriving DecidableEq, Repr

/-- `w[31:24]`, the opcode (R100). -/
def opcode (w : Word) : BitVec 8 := w.extractLsb' 24 8

/-- Format Z (R102): `w[23:0]` must be 0. -/
def decodeZ (w : Word) (i : Instr) : Except IllegalReason Instr :=
  if w.extractLsb' 0 24 = 0#24 then .ok i else .error .reservedBit

/-- Format I (R103): no reserved bit. -/
def decodeI (w : Word) : Except IllegalReason Instr :=
  .ok (.window (w.extractLsb' 0 24))

/-- Format SX (R107): bits 7:6 and 23:11 are reserved. -/
def decodeSX (w : Word) : Except IllegalReason Instr :=
  if w.extractLsb' 6 2 ≠ 0#2 ∨ w.extractLsb' 11 13 ≠ 0#13 then .error .reservedBit
  else .ok (.sliceExtract (w.extractLsb' 0 6) (w.extractLsb' 8 3))

/-- Format SM (R108): bits 7:6 and 15:11 are reserved. -/
def decodeSM (w : Word) : Except IllegalReason Instr :=
  if w.extractLsb' 6 2 ≠ 0#2 ∨ w.extractLsb' 11 5 ≠ 0#5 then .error .reservedBit
  else .ok (.sliceMerge (w.extractLsb' 0 6) (w.extractLsb' 8 3) (w.extractLsb' 16 8))

/-- Format U (R104, R106): bits 7:6 and 23:10 are reserved, and so is WC = 3. -/
def decodeU (w : Word) : Except IllegalReason Instr :=
  if w.extractLsb' 6 2 ≠ 0#2 ∨ w.extractLsb' 10 14 ≠ 0#14 then .error .reservedBit
  else if w.extractLsb' 8 2 = 3#2 then .error .reservedFieldValue
  else .ok (.unpackBegin (w.extractLsb' 0 6) (w.extractLsb' 8 2))

/-- Format P (R105, R111.4): bits 7:6, 15:14 and 23:17 are reserved; REM must be 0 when RM is 0. -/
def decodeP (w : Word) : Except IllegalReason Instr :=
  if w.extractLsb' 6 2 ≠ 0#2 ∨ w.extractLsb' 14 2 ≠ 0#2 ∨ w.extractLsb' 17 7 ≠ 0#7 then .error .reservedBit
  else if w.getLsbD 16 = false ∧ w.extractLsb' 8 6 ≠ 0#6 then .error .reservedFieldValue
  else .ok (.packBegin (w.extractLsb' 0 6) (w.extractLsb' 8 6) (w.getLsbD 16))

/-- `Decode(w)` of R112, with the opcode map of R110. It reads no state. -/
def decode (w : Word) : Except IllegalReason Instr :=
  if opcode w = 0x00#8 then decodeZ w .nop
  else if opcode w = 0x01#8 then decodeZ w .softReset
  else if opcode w = 0x10#8 then decodeI w
  else if opcode w = 0x18#8 then decodeSX w
  else if opcode w = 0x19#8 then decodeSM w
  else if opcode w = 0x20#8 then decodeU w
  else if opcode w = 0x21#8 then decodeZ w .unpackNext
  else if opcode w = 0x22#8 then decodeZ w .unpackEnd
  else if opcode w = 0x30#8 then decodeP w
  else if opcode w = 0x31#8 then decodeZ w .packPush
  else if opcode w = 0x32#8 then decodeZ w .packEnd
  else .error .unassignedOpcode

/-- The instruction read from a table row's word: bit 0 is the least significant bit of the one word a command
has (R100); bits at `nbits` and above are 0. -/
def decodeTableWord (nbits w : Nat) : Option Instr :=
  match decode (BitVec.ofNat 32 (w % 2 ^ nbits)) with
  | .ok i => some i
  | .error _ => none

/-- The command word of an instruction, field by field from the formats of R101 (reserved bits 0). -/
def encode : Instr → Word
  | .nop => 0x00#8 ++ 0#24
  | .softReset => 0x01#8 ++ 0#24
  | .window off => 0x10#8 ++ off
  | .sliceExtract n off3 => 0x18#8 ++ 0#13 ++ off3 ++ 0#2 ++ n
  | .sliceMerge n rl rb => 0x19#8 ++ rb ++ 0#5 ++ rl ++ 0#2 ++ n
  | .unpackBegin n wc => 0x20#8 ++ 0#14 ++ wc ++ 0#2 ++ n
  | .unpackNext => 0x21#8 ++ 0#24
  | .unpackEnd => 0x22#8 ++ 0#24
  | .packBegin n rem rm => 0x30#8 ++ 0#7 ++ BitVec.ofBool rm ++ 0#2 ++ rem ++ 0#2 ++ n
  | .packPush => 0x31#8 ++ 0#24
  | .packEnd => 0x32#8 ++ 0#24

end Sys2Proof
end

