-- ==== Sys2Proof/Machine/State.lean ====
section
/-! DEFINITION. The block's whole state (spec/10_state.md R30), the host's side of the port as plain data
(spec/20_memory.md R71), the reasons a step could stop, and the state after reset (R62). -/

namespace Sys2Proof.Machine

/-- No behaviour of this block is a fault that stops it: R327 "the block has no state in which it cannot take the
next transaction", and 93_implementation_defined.md "No behaviour of this block is `stuck`". So the type has no
constructor, and no step raises one (log entry 8; safe: a step that stopped would only lose claims). Command errors are
reported in STATUS (R287) and bus errors on the port (R289): both are next states. -/
inductive Fault where
deriving DecidableEq, Repr

/-- Why a step has no meaning in the model. -/
inductive Refusal where
  /-- Raised by `exec` alone, for an instruction that has no meaning yet; no arm uses it in this model. Safe: the
  machine stops where the hardware would go on. -/
  | notModelled (mnemonic : String)
deriving DecidableEq, Repr

/-- A byte memory: the bytes written since the last hard reset, by offset, offsets strictly rising. -/
abbrev Memory := List Host.Cell

/-- Why a command failed, with the information R281 and R282 give it. -/
inductive CommandError where
  /-- CONFIG: the parameter's id, the offending value, the least and the greatest valid value (R282). -/
  | config (param : BitVec 8) (value least greatest : Word)
  /-- ILLEGAL: the word decodes as ILLEGAL (R111). -/
  | illegal
  /-- STATE: the command needs an open session and none is open (R283). -/
  | state
  /-- RANGE: a window offset outside `[0, SRC_LEN)` (R284). -/
  | range
  /-- CAPACITY: the output would exceed DST_BYTES (R285). -/
  | capacity
deriving DecidableEq, Repr

/-- The registers of the map of R35, under the spec's names. -/
inductive Reg where
  | ID | VERSION | CMD | STATUS
  | ERR_PARAM | ERR_VALUE | ERR_MIN | ERR_MAX
  | X_LO | X_HI | R_LO | R_HI
  | SRC_LEN | SRC_CAP | DST_LEN | DST_CAP
  | U_CFG | U_POS | U_COUNT | U_REMAIN
  | P_CFG | P_REM | P_COUNT | P_BITS
deriving DecidableEq, Repr

/-- What a host address reaches (R73). -/
inductive Target where
  | register (r : Reg)
  | src (offset : Nat)
  | dst (offset : Nat)
deriving DecidableEq, Repr

/-- The width of a HostRead: 1, 2 or 4 bytes (R71). -/
inductive Width where
  | one | two | four
deriving DecidableEq, Repr

/-- Data on the bus: `width*8` bits (R71). -/
inductive BusData where
  | byte (d : Byte)
  | half (d : BitVec 16)
  | word (d : Word)
deriving DecidableEq, Repr

/-- A host transaction (R71); the width of a write is that of its data. -/
inductive Transaction where
  | hostRead (addr : Word) (width : Width)
  | hostWrite (addr : Word) (data : BusData)
deriving DecidableEq, Repr

/-- What the outside world does to the block: a transaction, or the reset input (R320, R321). -/
inductive Input where
  | transaction (t : Transaction)
  | hardReset
deriving DecidableEq, Repr

/-- The port's answer to a transaction (R71). -/
inductive Response where
  /-- `OK` of a HostWrite. -/
  | okWrite
  /-- `OK(data)` of a HostRead. -/
  | okRead (d : BusData)
  /-- `BUSERR`. -/
  | busErr
deriving DecidableEq, Repr

/-- The complete state of the block, component by component as R30 lists it, and after it four fields of the
model's own (log entries 1 to 4). -/
structure State where
  /-- SRC (R57). -/
  src : Memory
  /-- DST (R57). -/
  dst : Memory
  /-- SRC_LEN (R44). -/
  srcLen : BitVec 25
  /-- DST_LEN (R46). -/
  dstLen : BitVec 25
  /-- X_LO (R32). -/
  xLo : Word
  /-- X_HI (R32). -/
  xHi : Word
  /-- R_LO (R33). -/
  rLo : Word
  /-- R_HI (R33). -/
  rHi : Word
  /-- U_ACTIVE (R39). -/
  uActive : Bool
  /-- U_VALID (R39). -/
  uValid : Bool
  /-- P_ACTIVE (R39). -/
  pActive : Bool
  /-- P_DONE (R39). -/
  pDone : Bool
  /-- STICKY (R39, R41). -/
  sticky : Bool
  /-- ERR (R39, R281). -/
  err : BitVec 4
  /-- ERR_PARAM (R42). -/
  errParam : BitVec 8
  /-- ERR_VALUE (R43). -/
  errValue : Word
  /-- ERR_MIN (R43). -/
  errMin : Word
  /-- ERR_MAX (R43). -/
  errMax : Word
  /-- U_N (R47). -/
  uN : BitVec 6
  /-- U_WC (R47). -/
  uWc : BitVec 2
  /-- U_POS (R48). -/
  uPos : Word
  /-- U_COUNT (R49). -/
  uCount : Word
  /-- U_REMAIN (R50). -/
  uRemain : BitVec 6
  /-- P_N (R51). -/
  pN : BitVec 6
  /-- P_REMV (R51). -/
  pRemV : BitVec 6
  /-- P_RM (R51). -/
  pRm : Bool
  /-- P_RBYTE (R52). -/
  pRByte : Byte
  /-- P_RLEN (R52). -/
  pRLen : BitVec 3
  /-- P_COUNT (R53). -/
  pCount : Word
  /-- P_BITS (R54). -/
  pBits : Word
  /-- The model's own: SRC_BYTES and DST_BYTES, an argument of the model (R12, log entry 2). -/
  cfg : Config
  /-- The model's own: how many hard resets there have been since the first; it indexes the free values of the
  memories (log entry 1). -/
  powerOns : Nat
  /-- The model's own: what the host and the reset input do next (log entry 3). -/
  inputs : List Input
  /-- The model's own: the port's answers so far, newest first (R327, log entry 4). -/
  responses : List Response
deriving DecidableEq, Repr

/-- The block of configuration `c` right after its first hard reset (R62, R320): every stored component 0, no
byte of SRC or DST written yet. -/
def State.resetOf (c : Config) : State where
  src := []
  dst := []
  srcLen := 0
  dstLen := 0
  xLo := 0
  xHi := 0
  rLo := 0
  rHi := 0
  uActive := false
  uValid := false
  pActive := false
  pDone := false
  sticky := false
  err := 0
  errParam := 0
  errValue := 0
  errMin := 0
  errMax := 0
  uN := 0
  uWc := 0
  uPos := 0
  uCount := 0
  uRemain := 0
  pN := 0
  pRemV := 0
  pRm := false
  pRByte := 0
  pRLen := 0
  pCount := 0
  pBits := 0
  cfg := c
  powerOns := 0
  inputs := []
  responses := []

/-- The state after reset, in the reference configuration (DESIGN CHOICE, log entry 2). -/
def State.reset : State := State.resetOf Config.reference

end Sys2Proof.Machine
end

