-- ==== Sys2Proof/Machine/Ops.lean ====
section
/-! DEFINITION. The named operations over the memories and registers, and the block's one way of ending a command:
reporting an error (spec/60_exceptions.md R287, this block's counterpart of taking an exception; there is no return
from it, R294) or reporting success (R288). -/

namespace Sys2Proof.Machine

/-! ### Memory -/

/-- What an offset that is not listed holds: no value, since nothing has been written there since the hard reset.
What the block then READS there is the free value of `srcByte` and `dstByte` (R62, log entry 1). -/
def Memory.unlisted : Option Byte := none

/-- The byte written last at an offset. -/
def Memory.find : Memory → Nat → Option Byte
  | [], _ => Memory.unlisted
  | (a, b) :: m, i => if a = i then some b else Memory.find m i

/-- `M[i] <- b` (R19), keeping offsets strictly rising. -/
def Memory.write : Memory → Nat → Byte → Memory
  | [], i, b => [(i, b)]
  | (a, x) :: m, i, b =>
    if i < a then (i, b) :: (a, x) :: m
    else if i = a then (i, b) :: m
    else (a, x) :: Memory.write m i b

/-- Consecutive bytes from offset `i` on, the first at the lowest offset (R79). -/
def Memory.writeAll : Memory → Nat → List Byte → Memory
  | m, _, [] => m
  | m, i, b :: bs => Memory.writeAll (Memory.write m i b) (i + 1) bs

/-- The canonical form: offsets strictly rising. An unlisted offset holds no value (`Memory.unlisted`), so no entry
can equal it. -/
abbrev Memory.wf (m : Memory) : Prop := m.Pairwise fun c d => c.1 < d.1

/-- `SRC[i]` (R19): the byte the host wrote last, else the value drawn at the hard reset (R62, R85, R323). -/
def srcByte (s : State) (i : Nat) : Byte := (Memory.find s.src i).getD (Config.srcDrawn s.powerOns i)

/-- `DST[i]` (R19): the byte a command wrote last, else the value drawn at the hard reset (R62). -/
def dstByte (s : State) (i : Nat) : Byte := (Memory.find s.dst i).getD (Config.dstDrawn s.powerOns i)

/-! ### Result registers (R33) -/

/-- A 32-bit result: `R_LO <- v`, `R_HI <- 0`. -/
def setR32 (v : Word) (s : State) : State := { s with rLo := v, rHi := 0 }

/-- A 64-bit result: `R_HI <- v[63:32]`, `R_LO <- v[31:0]`. -/
def setR64 (v : DWord) (s : State) : State := { s with rHi := v.extractLsb' 32 32, rLo := v.extractLsb' 0 32 }

/-! ### Outcomes of a command -/

/-- The outcome code of STATUS.ERR (R281). -/
def errorCode : CommandError → BitVec 4
  | .config _ _ _ _ => 1
  | .illegal => 2
  | .state => 3
  | .range => 4
  | .capacity => 5

/-- R287, from the state before the command: every write of the command is discarded, ERR and STICKY are set, and
ERR_PARAM, ERR_VALUE, ERR_MIN and ERR_MAX take CONFIG's information, or 0. -/
def raiseError (e : CommandError) (s : State) : State :=
  match e with
  | .config param value least greatest =>
    { s with err := errorCode e, sticky := true
             errParam := param, errValue := value, errMin := least, errMax := greatest }
  | .illegal | .state | .range | .capacity =>
    { s with err := errorCode e, sticky := true, errParam := 0, errValue := 0, errMin := 0, errMax := 0 }

/-- R288, on the state the command's own writes leave. STICKY is not written. -/
def completeOk (s : State) : State :=
  { s with err := 0, errParam := 0, errValue := 0, errMin := 0, errMax := 0 }

/-- The end of `ExecCommand` (R286): R287 on the state before the command, or R288 on the command's writes (R20). -/
def finish (s : State) (outcome : Except CommandError State) : Host.Outcome State Fault Refusal :=
  match outcome with
  | .error e => .next (raiseError e s)
  | .ok t => .next (completeOk t)

/-- CONFIG on the group width `n`, valid in `[1, greatest]`: parameter 1 (R42, R282). -/
def widthError (n greatest : Nat) : CommandError :=
  .config 1 (BitVec.ofNat 32 n) 1 (BitVec.ofNat 32 greatest)

/-- CONFIG on `remain`, valid in `[0, n - 1]`: parameter 2 (R42, R282). -/
def remainError (rem n : Nat) : CommandError :=
  .config 2 (BitVec.ofNat 32 rem) 0 (BitVec.ofNat 32 (n - 1))

/-! ### Resets -/

/-- Every stored component of R30 other than SRC and DST becomes 0 (R262). -/
def clearRegisters (s : State) : State :=
  { State.resetOf s.cfg with
    src := s.src, dst := s.dst, powerOns := s.powerOns, inputs := s.inputs, responses := s.responses }

/-- The hard reset (R320, R62): every register 0, SRC and DST drawn anew. The port's queue and answers are the
host's, not the block's, and stay (log entry 3). -/
def hardReset (s : State) : State :=
  { State.resetOf s.cfg with
    powerOns := s.powerOns + 1, inputs := s.inputs, responses := s.responses }

/-! ### The host's side of the port -/

/-- The port's answer to the transaction just performed. -/
def respond (r : Response) (s : State) : State := { s with responses := r :: s.responses }

/-- The state once the first input has been taken: `rest` is what is left. -/
def taken (rest : List Input) (s : State) : State := { s with inputs := rest }

/-- The answer added to the state a transaction leaves. -/
def answerWith (r : Response) : Host.Outcome State Fault Refusal → Host.Outcome State Fault Refusal
  | .next t => .next (respond r t)
  | .fault f => .fault f
  | .refused f => .refused f

end Sys2Proof.Machine
end

