-- ==== Sys2Proof/Machine/Operands.lean ====
section
/-! DEFINITION. What the commands compute from their operands: masks (spec/00_scope.md R18), the window
(40_window.md R141), Extract and Merge (41_slice_shifter.md R160, R162), the unpacker's width code and pad count
(30_encoding.md R106, 42_unpacker.md R183), and the packer's byte counts (43_packer.md R223, R229). Arithmetic on
counts is on natural numbers (R16). -/

namespace Sys2Proof.Machine

/-- `mask(n)`: the 64-bit value with bits `n-1:0` set (R18). -/
def mask (n : Nat) : DWord := BitVec.ofNat 64 (2 ^ n - 1)

/-- `hmask8(r)`: the byte with its top `r` bits set (R18). -/
def hmask8 (r : Nat) : Byte := BitVec.ofNat 8 (0xFF <<< (8 - r))

/-- `byte_j` of R141: a byte at an index `L` or above is 0, whatever the buffer holds there. -/
def windowByte (buffer : Nat → Byte) (L i j : Nat) : Byte := if i + j < L then buffer (i + j) else 0

/-- `Window(B, L, i)` of R141: bytes `i .. i+7`, the first in bits 63:56. -/
def window (buffer : Nat → Byte) (L i : Nat) : DWord :=
  (List.range 8).foldl (fun result j => result ||| ((windowByte buffer L i j).setWidth 64 <<< (56 - 8 * j))) 0

/-- `Extract(win, b, n)` of R160: the `n`-bit field that starts `b` bits below the window's top bit. -/
def extract (win : DWord) (b n : Nat) : Word := ((win >>> (64 - b - n)) &&& mask n).setWidth 32

/-- `Merge(rb, rl, m, n)` of R162: the low `n` bits of `m` right after the top `rl` bits of `rb`. -/
def merge (rb : Byte) (rl : Nat) (m : Word) (n : Nat) : DWord :=
  let pre : DWord := (rb &&& hmask8 rl).setWidth 64 <<< 56
  let body : DWord := ((m.setWidth 64 &&& mask n) <<< (64 - n)) >>> rl
  pre ||| body

/-- `win[63 - 8*j : 56 - 8*j]`, the byte number `j` of a window from its top (R229). -/
def byteOfWindow (win : DWord) (j : Nat) : Byte := (win >>> (56 - 8 * j)).setWidth 8

/-- `W = 8 << wc`, the output value width of a width code (R106, R185). -/
def valueWidth (wc : BitVec 2) : Nat := 8 <<< wc.toNat

/-- `nmax = min(32, W)`, the greatest group width of a width code (R106, R185). -/
def greatestWidth (wc : BitVec 2) : Nat := min 32 (valueWidth wc)

/-- `Remain(L, n)` of R183: the zero-padding bits of the last group. -/
def remain (L n : Nat) : Nat := if (8 * L) % n = 0 then 0 else n - (8 * L) % n

/-- `ceil(a / 8)` of R16. -/
def ceilDiv8 (a : Nat) : Nat := (a + 7) / 8

/-- The output length of R223 and R232: `ceil(max(0, bits - cut) / 8)`. Subtraction on naturals is the `max`. -/
def finalLength (bits cut : Nat) : Nat := ceilDiv8 (bits - cut)

/-- `t = n + rl`, the bits ready after a push (R225, R229). -/
def readyBits (s : State) : Nat := s.pN.toNat + s.pRLen.toNat

/-- `k = t div 8`, the whole bytes a push emits (R225, R229). -/
def readyBytes (s : State) : Nat := readyBits s / 8

/-- The window of a push: X_LO's low bits under the remainder (R229). -/
def pushWindow (s : State) : DWord := merge s.pRByte s.pRLen.toNat s.xLo s.pN.toNat

/-- The bytes a push emits, the window's top byte first (R79, R229). -/
def pushBytes (s : State) : List Byte := (List.range (readyBytes s)).map (byteOfWindow (pushWindow s))

/-- `cut` of R232: the `remain` operand in the remain-aware form, else 0. -/
def packCut (s : State) : Nat := if s.pRm then s.pRemV.toNat else 0

/-- `F` of R232: the final output length. -/
def packFinal (s : State) : Nat := finalLength s.pBits.toNat (packCut s)

end Sys2Proof.Machine
end

