-- ==== Sys2Proof/Machine/Flags.lean ====
section
/-! DEFINITION. The flags: STATUS as software reads and writes it (spec/10_state.md R39 to R41). -/

namespace Sys2Proof.Machine

/-- U_DONE, computed: `U_ACTIVE and (U_POS >= 8 * SRC_LEN)` (R40). -/
def uDone (s : State) : Bool := s.uActive && decide (8 * s.srcLen.toNat ≤ s.uPos.toNat)

/-- The STATUS image (R39): STICKY is bit 12, ERR bits 11:8, P_DONE 4, P_ACTIVE 3, U_DONE 2, U_VALID 1, U_ACTIVE 0;
the reserved bits 31:13 and 7:5 read 0 (R61). -/
def statusImage (s : State) : Word :=
  0#19 ++ BitVec.ofBool s.sticky ++ s.err ++ 0#3 ++ BitVec.ofBool s.pDone ++ BitVec.ofBool s.pActive ++
    BitVec.ofBool (uDone s) ++ BitVec.ofBool s.uValid ++ BitVec.ofBool s.uActive

/-- A host write of `d` to STATUS (R41): bit 12 is write-1-to-clear, every other bit is ignored. -/
def writeStatus (d : Word) (s : State) : State :=
  if d.getLsbD 12 then { s with sticky := false } else s

end Sys2Proof.Machine
end

