-- ==== Sys2Proof/Machine/Extractor.lean ====
section
/-! DEFINITION. The bit_window_extractor's command (spec/40_window.md R146). -/

namespace Sys2Proof.Machine

/-- WINDOW (R146): the 64-bit window of the source buffer at byte offset `off`; RANGE when `off >= SRC_LEN`, which
keeps Window inside its domain (R142). -/
def execWindow (off : BitVec 24) (s : State) : Host.Outcome State Fault Refusal :=
  finish s <|
    if s.srcLen.toNat ≤ off.toNat then .error .range
    else .ok (setR64 (window (srcByte s) s.srcLen.toNat off.toNat) s)

end Sys2Proof.Machine
end

