-- ==== Sys2Proof/Machine/Packer.lean ====
section
/-! DEFINITION. The bit_packer_with_remainder's commands (spec/43_packer.md R226 to R232). -/

namespace Sys2Proof.Machine

/-- PACK_BEGIN (R226, R227): opens or restarts a session and empties the output. CONFIG on `n`, then on `remain`
(R290). `RM = 0` with `REM != 0` is no legal command and raises ILLEGAL (R111.4; DEDUCED, log entry 6: no decoded
command has it). -/
def execPackBegin (n : BitVec 6) (rem : BitVec 6) (rm : Bool) (s : State) : Host.Outcome State Fault Refusal :=
  finish s <|
    if rm = false ∧ rem ≠ 0#6 then .error .illegal
    else if n.toNat < 1 ∨ 32 < n.toNat then .error (widthError n.toNat 32)
    else if rm = true ∧ n.toNat ≤ rem.toNat then .error (remainError rem.toNat n.toNat)
    else .ok { s with
      pN := n, pRemV := rem, pRm := rm
      pRByte := 0, pRLen := 0, pCount := 0, pBits := 0
      dstLen := 0
      pActive := true, pDone := false }

/-- PACK_PUSH (R229): packs X_LO's low `n` bits after the remainder, emits the whole bytes and keeps the rest.
STATE when no session is open; CAPACITY when the new bytes do not fit (R228). -/
def execPackPush (s : State) : Host.Outcome State Fault Refusal :=
  finish s <|
    if s.pActive = false then .error .state
    else if s.cfg.dstBytes < s.dstLen.toNat + readyBytes s then .error .capacity
    else .ok { s with
      dst := Memory.writeAll s.dst s.dstLen.toNat (pushBytes s)
      dstLen := BitVec.ofNat 25 (s.dstLen.toNat + readyBytes s)
      pRByte := byteOfWindow (pushWindow s) (readyBytes s)
      pRLen := BitVec.ofNat 3 (readyBits s % 8)
      pCount := s.pCount + 1
      pBits := s.pBits + s.pN.setWidth 32 }

/-- PACK_END (R231, R232): flushes the remainder when the final length needs its byte, truncates in the remain-aware
form, and closes the session. STATE when none is open; CAPACITY when the final length exceeds DST_BYTES (R228). -/
def execPackEnd (s : State) : Host.Outcome State Fault Refusal :=
  finish s <|
    if s.pActive = false then .error .state
    else if s.cfg.dstBytes < packFinal s then .error .capacity
    else .ok { s with
      dst := if s.dstLen.toNat < packFinal s then Memory.write s.dst s.dstLen.toNat s.pRByte else s.dst
      dstLen := BitVec.ofNat 25 (packFinal s)
      pRByte := 0, pRLen := 0
      pActive := false, pDone := true }

end Sys2Proof.Machine
end

