-- ==== Sys2Proof/Machine/SliceShifter.lean ====
section
/-! DEFINITION. The bit_slice_shifter's commands (spec/41_slice_shifter.md R165 to R167). -/

namespace Sys2Proof.Machine

/-- SLICE_EXTRACT (R165): Extract of X_HI:X_LO into R_LO; CONFIG when `n` is outside `[1, 32]` (R166). -/
def execSliceExtract (n : BitVec 6) (off3 : BitVec 3) (s : State) : Host.Outcome State Fault Refusal :=
  finish s <|
    if n.toNat < 1 ∨ 32 < n.toNat then .error (widthError n.toNat 32)
    else .ok (setR32 (extract (s.xHi ++ s.xLo) off3.toNat n.toNat) s)

/-- SLICE_MERGE (R167): Merge of X_LO under the command's remainder into R_HI:R_LO; CONFIG when `n` is outside
`[1, 32]`. -/
def execSliceMerge (n : BitVec 6) (rl : BitVec 3) (rb : BitVec 8) (s : State) : Host.Outcome State Fault Refusal :=
  finish s <|
    if n.toNat < 1 ∨ 32 < n.toNat then .error (widthError n.toNat 32)
    else .ok (setR64 (merge rb rl.toNat s.xLo n.toNat) s)

end Sys2Proof.Machine
end

