-- ==== Sys2Proof/Machine/System.lean ====
section
/-! DEFINITION. The system commands (spec/44_system.md R260 to R262). -/

namespace Sys2Proof.Machine

/-- NOP (R261): `ok`. -/
def execNop (s : State) : Host.Outcome State Fault Refusal := finish s (.ok s)

/-- SOFT_RESET (R262): every stored component other than SRC and DST becomes 0, then `ok`. -/
def execSoftReset (s : State) : Host.Outcome State Fault Refusal := finish s (.ok (clearRegisters s))

end Sys2Proof.Machine
end

