-- ==== Sys2Proof/Machine/Unpacker.lean ====
section
/-! DEFINITION. The bit_group_unpacker's commands (spec/42_unpacker.md R185 to R189). -/

namespace Sys2Proof.Machine

/-- UNPACK_BEGIN (R185, R186): opens or restarts a session. CONFIG when `n` is outside `[1, min(32, W)]`. The width
code 3 is no legal command and raises ILLEGAL (R106, R111.3; DEDUCED, log entry 6: no decoded command has it). -/
def execUnpackBegin (n : BitVec 6) (wc : BitVec 2) (s : State) : Host.Outcome State Fault Refusal :=
  finish s <|
    if wc = 3#2 then .error .illegal
    else if n.toNat < 1 ∨ greatestWidth wc < n.toNat then .error (widthError n.toNat (greatestWidth wc))
    else .ok { s with
      uN := n, uWc := wc, uPos := 0, uCount := 0
      uRemain := BitVec.ofNat 6 (remain s.srcLen.toNat n.toNat)
      uActive := true, uValid := false }

/-- The value of the group at the cursor (R187): the window at the group's own byte, and Extract in it. -/
def groupAtCursor (s : State) : Word :=
  extract (window (srcByte s) s.srcLen.toNat (s.uPos.toNat / 8)) (s.uPos.toNat % 8) s.uN.toNat

/-- UNPACK_NEXT (R187, R188): delivers the next value, or reports that none is left. STATE when no session is
open. A group is delivered exactly when its first bit lies inside the data (R184). -/
def execUnpackNext (s : State) : Host.Outcome State Fault Refusal :=
  finish s <|
    if s.uActive = false then .error .state
    else if 8 * s.srcLen.toNat ≤ s.uPos.toNat then .ok (setR32 0 { s with uValid := false })
    else .ok (setR32 (groupAtCursor s) { s with
      uPos := s.uPos + s.uN.setWidth 32
      uCount := s.uCount + 1
      uValid := true })

/-- UNPACK_END (R189): closes the session. STATE when none is open. -/
def execUnpackEnd (s : State) : Host.Outcome State Fault Refusal :=
  finish s <|
    if s.uActive = false then .error .state
    else .ok { s with uActive := false, uValid := false }

end Sys2Proof.Machine
end

