-- ==== Sys2Proof/Machine/Dispatch.lean ====
section
/-! DEFINITION. The meaning of each command: one arm per constructor (spec/30_encoding.md R110). -/

namespace Sys2Proof.Machine

def exec (i : Instr) (s : State) : Host.Outcome State Fault Refusal :=
  match i with
  | .nop => Sys2Proof.Machine.execNop s
  | .softReset => Sys2Proof.Machine.execSoftReset s
  | .window off => Sys2Proof.Machine.execWindow off s
  | .sliceExtract n off3 => Sys2Proof.Machine.execSliceExtract n off3 s
  | .sliceMerge n rl rb => Sys2Proof.Machine.execSliceMerge n rl rb s
  | .unpackBegin n wc => Sys2Proof.Machine.execUnpackBegin n wc s
  | .unpackNext => Sys2Proof.Machine.execUnpackNext s
  | .unpackEnd => Sys2Proof.Machine.execUnpackEnd s
  | .packBegin n rem rm => Sys2Proof.Machine.execPackBegin n rem rm s
  | .packPush => Sys2Proof.Machine.execPackPush s
  | .packEnd => Sys2Proof.Machine.execPackEnd s

end Sys2Proof.Machine
end

