-- ==== Sys2Proof/Machine/Port.lean ====
section
/-! DEFINITION. The host port: the address map, HostRead, HostWrite and the execution of a command word
(spec/20_memory.md R71 to R78, 10_state.md R35 to R54, 60_exceptions.md R286). -/

namespace Sys2Proof.Machine

/-! ### Address map -/

/-- The byte offset of a register (R35). -/
def registerOffset : Reg → Nat
  | .ID => 0x000
  | .VERSION => 0x004
  | .CMD => 0x008
  | .STATUS => 0x00C
  | .ERR_PARAM => 0x010
  | .ERR_VALUE => 0x014
  | .ERR_MIN => 0x018
  | .ERR_MAX => 0x01C
  | .X_LO => 0x020
  | .X_HI => 0x024
  | .R_LO => 0x028
  | .R_HI => 0x02C
  | .SRC_LEN => 0x030
  | .SRC_CAP => 0x034
  | .DST_LEN => 0x038
  | .DST_CAP => 0x03C
  | .U_CFG => 0x040
  | .U_POS => 0x044
  | .U_COUNT => 0x048
  | .U_REMAIN => 0x04C
  | .P_CFG => 0x050
  | .P_REM => 0x054
  | .P_COUNT => 0x058
  | .P_BITS => 0x05C

/-- Every register of the map. -/
def registers : List Reg :=
  [Reg.ID, Reg.VERSION, Reg.CMD, Reg.STATUS, Reg.ERR_PARAM, Reg.ERR_VALUE, Reg.ERR_MIN, Reg.ERR_MAX,
   Reg.X_LO, Reg.X_HI, Reg.R_LO, Reg.R_HI, Reg.SRC_LEN, Reg.SRC_CAP, Reg.DST_LEN, Reg.DST_CAP,
   Reg.U_CFG, Reg.U_POS, Reg.U_COUNT, Reg.U_REMAIN, Reg.P_CFG, Reg.P_REM, Reg.P_COUNT, Reg.P_BITS]

/-- The register at a byte offset; a misaligned or unlisted offset has none (R74, R75). -/
def registerAt (a : Nat) : Option Reg := registers.find? fun r => registerOffset r == a

/-- The base of the SRC region (R73). -/
def srcBase : Nat := 0x01000000

/-- The base of the DST region (R73). -/
def dstBase : Nat := 0x02000000

/-- What an address reaches, or nothing where it is unmapped (R73, R74). Each buffer region is `2^24` bytes wide,
mapped up to its capacity. -/
def targetOf (c : Config) (addr : Word) : Option Target :=
  let a := addr.toNat
  if a < 0x1000 then (registerAt a).map .register
  else if srcBase ≤ a ∧ a < srcBase + 2 ^ 24 then
    if a - srcBase < c.srcBytes then some (.src (a - srcBase)) else none
  else if dstBase ≤ a ∧ a < dstBase + 2 ^ 24 then
    if a - dstBase < c.dstBytes then some (.dst (a - dstBase)) else none
  else none

/-! ### Reads -/

/-- The 32-bit image of a register (R35 to R54); reserved bits read 0 (R61). -/
def registerImage (r : Reg) (s : State) : Word :=
  match r with
  | .ID => 0x4E424954#32
  | .VERSION => 0x00000007#32
  | .CMD => 0
  | .STATUS => statusImage s
  | .ERR_PARAM => s.errParam.setWidth 32
  | .ERR_VALUE => s.errValue
  | .ERR_MIN => s.errMin
  | .ERR_MAX => s.errMax
  | .X_LO => s.xLo
  | .X_HI => s.xHi
  | .R_LO => s.rLo
  | .R_HI => s.rHi
  | .SRC_LEN => s.srcLen.setWidth 32
  | .SRC_CAP => BitVec.ofNat 32 s.cfg.srcBytes
  | .DST_LEN => s.dstLen.setWidth 32
  | .DST_CAP => BitVec.ofNat 32 s.cfg.dstBytes
  | .U_CFG => 0#22 ++ s.uWc ++ 0#2 ++ s.uN
  | .U_POS => s.uPos
  | .U_COUNT => s.uCount
  | .U_REMAIN => s.uRemain.setWidth 32
  | .P_CFG => 0#15 ++ BitVec.ofBool s.pRm ++ 0#2 ++ s.pRemV ++ 0#2 ++ s.pN
  | .P_REM => 0#21 ++ s.pRLen ++ s.pRByte
  | .P_COUNT => s.pCount
  | .P_BITS => s.pBits

/-- A HostRead of DST at a mapped offset (R78): 0 at and above DST_LEN. -/
def dstVisible (s : State) (i : Nat) : Byte := if i < s.dstLen.toNat then dstByte s i else 0

/-- The answer to `HostRead(addr, width)` (R75, R76): a register is read by an aligned 32-bit access, a buffer byte
by a byte access; anything else is refused. -/
def hostRead (addr : Word) (width : Width) (s : State) : Response :=
  match targetOf s.cfg addr, width with
  | some (.register r), .four => .okRead (.word (registerImage r s))
  | some (.src i), .one => .okRead (.byte (srcByte s i))
  | some (.dst i), .one => .okRead (.byte (dstVisible s i))
  | _, _ => .busErr

/-! ### Commands -/

/-- `ExecCommand(w)` (R286): an ILLEGAL word raises ILLEGAL, a legal one runs its command. -/
def execCommand (w : Word) (s : State) : Host.Outcome State Fault Refusal :=
  match decode w with
  | .error _ => .next (raiseError .illegal s)
  | .ok i => exec i s

/-! ### Writes -/

/-- A write the port refuses: BUSERR and no change of state (R71, R289). -/
def refuse (s : State) : Host.Outcome State Fault Refusal := .next (respond .busErr s)

/-- A write that leaves `t`. -/
def accept (t : State) : Host.Outcome State Fault Refusal := .next (respond .okWrite t)

/-- A host write of `d` to SRC_LEN (R44): refused while an unpack session is open, and above SRC_BYTES. -/
def writeSrcLen (d : Word) (s : State) : Host.Outcome State Fault Refusal :=
  if s.uActive then refuse s
  else if s.cfg.srcBytes < d.toNat then refuse s
  else accept { s with srcLen := d.setWidth 25 }

/-- A 32-bit host write of `d` to a register (R35, R77): the rule of each writable register, BUSERR for a read-only
one. The write to CMD is OK whatever the command's outcome (R286). -/
def writeRegister (r : Reg) (d : Word) (s : State) : Host.Outcome State Fault Refusal :=
  match r with
  | .CMD => answerWith .okWrite (execCommand d s)
  | .STATUS => accept (writeStatus d s)
  | .X_LO => accept { s with xLo := d }
  | .X_HI => accept { s with xHi := d }
  | .SRC_LEN => writeSrcLen d s
  | .ID | .VERSION | .ERR_PARAM | .ERR_VALUE | .ERR_MIN | .ERR_MAX | .R_LO | .R_HI | .SRC_CAP | .DST_LEN | .DST_CAP
  | .U_CFG | .U_POS | .U_COUNT | .U_REMAIN | .P_CFG | .P_REM | .P_COUNT | .P_BITS => refuse s

/-- A host write of byte `b` to SRC at a mapped offset (R77): refused while an unpack session is open. -/
def writeSrc (i : Nat) (b : Byte) (s : State) : Host.Outcome State Fault Refusal :=
  if s.uActive then refuse s else accept { s with src := Memory.write s.src i b }

/-- `HostWrite(addr, width, data)` (R71, R75, R77). DST is read-only to the host. -/
def hostWrite (addr : Word) (data : BusData) (s : State) : Host.Outcome State Fault Refusal :=
  match targetOf s.cfg addr, data with
  | some (.register r), .word d => writeRegister r d s
  | some (.src i), .byte b => writeSrc i b s
  | _, _ => refuse s

/-- One host transaction on the state from which it was taken (R71, R72). A read changes nothing but its answer
(R76, R82). -/
def transact (t : Transaction) (s : State) : Host.Outcome State Fault Refusal :=
  match t with
  | .hostRead addr width => .next (respond (hostRead addr width s) s)
  | .hostWrite addr data => hostWrite addr data s

/-- One input on the state from which it was taken: a transaction, or the hard reset between transactions
(R320, R321). -/
def takeInput (i : Input) (s : State) : Host.Outcome State Fault Refusal :=
  match i with
  | .transaction t => transact t s
  | .hardReset => .next (hardReset s)

/-- The transaction that writes a command word to CMD (R38). -/
def commandWrite (w : Word) : Input := .transaction (.hostWrite (BitVec.ofNat 32 (registerOffset .CMD)) (.word w))

end Sys2Proof.Machine
end

