-- ==== Sys2Proof/Machine/Step.lean ====
section
/-! DEFINITION. One step: the next input is taken and performed whole (spec/20_memory.md R71, R72). -/

namespace Sys2Proof.Machine

/-- With no input waiting nothing happens: the block never starts an access (R70) and its state persists (R301). -/
def step (s : State) : Host.Outcome State Fault Refusal :=
  match s.inputs with
  | [] => .next s
  | i :: rest => takeInput i (taken rest s)

/-- The state whose very next step executes the command word `w` (its bits at `nbits` and above 0): the host's next
transaction is the write of that word to CMD (R34, R38, R72; log entry 3). -/
def State.withFetchWord (s : State) (nbits w : Nat) : State :=
  { s with inputs := commandWrite (BitVec.ofNat 32 (w % 2 ^ nbits)) :: s.inputs }

end Sys2Proof.Machine
end

