-- ==== Sys2Proof/Machine/Reference.lean ====
section
/-! DEFINITION. The spec's reference functions, which no command calls: the bit stream of a buffer (spec/00_scope.md
R15), Chunks (42_unpacker.md R181), and Conjoin and ConjoinRem (43_packer.md R221, R223). Statements compare the
machine with them. -/

namespace Sys2Proof.Machine

/-- `StreamBit(B, L, p)` of R15: bit `7 - (p mod 8)` of byte `B[p div 8]`, and 0 past the end. -/
def streamBit (buffer : Nat → Byte) (L p : Nat) : Bool :=
  decide (p < 8 * L) && (buffer (p / 8)).getLsbD (7 - p % 8)

/-- The number whose `n` bits are `bit 0 .. bit (n-1)`, the first the most significant:
`sum over t of bit(t) * 2^(n-1-t)` (R181, R221). -/
def msbFirst (n : Nat) (bit : Nat → Bool) : Nat :=
  ((List.range n).map fun t => (bit t).toNat * 2 ^ (n - 1 - t)).sum

/-- `ceil(8*L / n)`, the number of groups (R181, R182). -/
def chunkCount (L n : Nat) : Nat := (8 * L + n - 1) / n

/-- `Chunks(B, L, n)[j]` of R181. -/
def chunk (buffer : Nat → Byte) (L n j : Nat) : Nat := msbFirst n fun t => streamBit buffer L (j * n + t)

/-- `Chunks(B, L, n)` of R181, as 32-bit values (each is below `2^n <= 2^32`). -/
def chunks (buffer : Nat → Byte) (L n : Nat) : List Word :=
  (List.range (chunkCount L n)).map fun j => BitVec.ofNat 32 (chunk buffer L n j)

/-- `S(p)` of R221: the stream of the values' low `n` bits, 0 past the end. -/
def packedBit (v : List Word) (n p : Nat) : Bool :=
  decide (p < v.length * n) && (v.getD (p / n) 0).getLsbD (n - 1 - p % n)

/-- `Conjoin(v, n)` of R221. -/
def conjoin (v : List Word) (n : Nat) : List Byte :=
  (List.range (ceilDiv8 (v.length * n))).map fun q => BitVec.ofNat 8 (msbFirst 8 fun t => packedBit v n (8 * q + t))

/-- `ConjoinRem(v, n, r)` of R223: the prefix of length `F(k, n, r)`. -/
def conjoinRem (v : List Word) (n r : Nat) : List Byte := (conjoin v n).take (finalLength (v.length * n) r)

end Sys2Proof.Machine
end

