-- ==== Sys2Proof/Safety.lean ====
section
/-! DEFINITION. What a sound state of the block is: the invariants that spec/10_state.md states of its registers, in
one predicate. It rules out register values that no run reaches. -/

namespace Sys2Proof.Machine

/-- Both memories are in canonical form and hold nothing beyond their capacity (R57). -/
abbrev MemoriesSound (s : State) : Prop :=
  Memory.wf s.src ∧ Memory.wf s.dst ∧ (∀ c ∈ s.src, c.1 < s.cfg.srcBytes) ∧ (∀ c ∈ s.dst, c.1 < s.cfg.dstBytes)

/-- `0 <= SRC_LEN <= SRC_BYTES` (R44) and `0 <= DST_LEN <= DST_BYTES` (R46). -/
abbrev LengthsSound (s : State) : Prop :=
  s.srcLen.toNat ≤ s.cfg.srcBytes ∧ s.dstLen.toNat ≤ s.cfg.dstBytes

/-- Every byte of the output buffer has been written since the hard reset, so no read shows a drawn DST byte (R62). -/
abbrev OutputWritten (s : State) : Prop := ∀ i < s.dstLen.toNat, (Memory.find s.dst i).isSome = true

/-- The outcome registers: no reserved code (R281); ERR_PARAM is 0, 1 or 2 (R42); all ERR_* are 0 unless the last
outcome is CONFIG (R42, R43). -/
abbrev OutcomeSound (s : State) : Prop :=
  s.err.toNat ≤ 5 ∧ s.errParam.toNat ≤ 2 ∧
  (s.err ≠ 1 → s.errParam = 0 ∧ s.errValue = 0 ∧ s.errMin = 0 ∧ s.errMax = 0)

/-- The unpacker's laws while a session is open (R8, R50, R56): a legal width, `U_REMAIN = Remain(SRC_LEN, U_N)`, the
cursor at a whole number of groups and inside its bound. -/
abbrev UnpackerSound (s : State) : Prop :=
  (s.uValid = true → s.uActive = true) ∧
  (s.uActive = true →
    s.uWc ≠ 3#2 ∧ 1 ≤ s.uN.toNat ∧ s.uN.toNat ≤ greatestWidth s.uWc ∧
    s.uRemain.toNat = remain s.srcLen.toNat s.uN.toNat ∧
    s.uPos.toNat = s.uCount.toNat * s.uN.toNat ∧
    (0 < s.srcLen.toNat → s.uPos.toNat ≤ 8 * s.srcLen.toNat + s.uN.toNat - 1) ∧
    (s.srcLen.toNat = 0 → s.uPos.toNat = 0))

/-- The packer's laws: the remainder byte is left-aligned (R52), and while a session is open the width and `remain`
are in range (R10), `P_BITS = P_COUNT * P_N` (R54), `DST_LEN = P_BITS div 8` and `P_RLEN = P_BITS mod 8` (R55). -/
abbrev PackerSound (s : State) : Prop :=
  s.pRByte &&& ~~~ (hmask8 s.pRLen.toNat) = 0 ∧
  (s.pActive = true →
    s.pDone = false ∧ 1 ≤ s.pN.toNat ∧ s.pN.toNat ≤ 32 ∧
    (s.pRm = true → s.pRemV.toNat < s.pN.toNat) ∧ (s.pRm = false → s.pRemV = 0) ∧
    s.pBits.toNat = s.pCount.toNat * s.pN.toNat ∧
    s.dstLen.toNat = s.pBits.toNat / 8 ∧ s.pRLen.toNat = s.pBits.toNat % 8)

/-- A sound state: everything spec/10_state.md says its registers always obey. -/
abbrev StateSound (s : State) : Prop :=
  s.cfg.Valid ∧ MemoriesSound s ∧ LengthsSound s ∧ OutputWritten s ∧ OutcomeSound s ∧ UnpackerSound s ∧ PackerSound s

/-! ### Outcomes, written out for the statements (apart from the model's own `raiseError` and `completeOk`) -/

/-- A state in which an error is reported as R287 says: ERR, STICKY and the ERR_* registers, nothing else changed. -/
def reported (s : State) (code : BitVec 4) (param : BitVec 8) (value least greatest : Word) : State :=
  { s with err := code, sticky := true, errParam := param, errValue := value, errMin := least, errMax := greatest }

/-- A state in which success is reported as R288 says: ERR and the ERR_* registers 0, STICKY untouched. -/
def succeeded (s : State) : State :=
  { s with err := 0, errParam := 0, errValue := 0, errMin := 0, errMax := 0 }

/-- What is left when one input has been taken and answered: the host's side of the port moves, nothing else. The
queue and the recorded answers are the model's own fields (log entries 3 and 4). -/
def answered (s : State) (rest : List Input) (r : Response) : State :=
  { s with inputs := rest, responses := r :: s.responses }

/-- Every stored component of R30 other than SRC and DST is 0 (R62, R262). -/
abbrev RegistersZero (t : State) : Prop :=
  (t.srcLen = 0 ∧ t.dstLen = 0 ∧ t.xLo = 0 ∧ t.xHi = 0 ∧ t.rLo = 0 ∧ t.rHi = 0) ∧
  (t.uActive = false ∧ t.uValid = false ∧ t.pActive = false ∧ t.pDone = false ∧ t.sticky = false) ∧
  (t.err = 0 ∧ t.errParam = 0 ∧ t.errValue = 0 ∧ t.errMin = 0 ∧ t.errMax = 0) ∧
  (t.uN = 0 ∧ t.uWc = 0 ∧ t.uPos = 0 ∧ t.uCount = 0 ∧ t.uRemain = 0) ∧
  (t.pN = 0 ∧ t.pRemV = 0 ∧ t.pRm = false ∧ t.pRByte = 0 ∧ t.pRLen = 0 ∧ t.pCount = 0 ∧ t.pBits = 0)

/-- The state `s` with the packer's part (DST, DST_LEN, the P_ registers and flags) of another state (R192). -/
def withPackerOf (p s : State) : State :=
  { s with
    dst := p.dst, dstLen := p.dstLen, pActive := p.pActive, pDone := p.pDone
    pN := p.pN, pRemV := p.pRemV, pRm := p.pRm, pRByte := p.pRByte, pRLen := p.pRLen
    pCount := p.pCount, pBits := p.pBits }

/-- The state `s` with the unpacker's part (SRC, SRC_LEN, the U_ registers and flags) of another state (R192). -/
def withUnpackerOf (u s : State) : State :=
  { s with
    src := u.src, srcLen := u.srcLen, uActive := u.uActive, uValid := u.uValid
    uN := u.uN, uWc := u.uWc, uPos := u.uPos, uCount := u.uCount, uRemain := u.uRemain }

/-! ### Sessions over a run (R11, R190, R233) -/

/-- The next state. Every step has one (R327). -/
def stepTo (s : State) : State :=
  match step s with
  | .next t => t
  | .fault _ => s
  | .refused _ => s

/-- The state after `k` steps. -/
def afterSteps : Nat → State → State
  | 0, s => s
  | k + 1, s => afterSteps k (stepTo s)

/-- Whether the next input writes to CMD a word that decodes to a command of the given kind. -/
def nextCommandIs (kind : Instr → Bool) (s : State) : Bool :=
  match s.inputs with
  | .transaction (.hostWrite addr (.word w)) :: _ =>
    addr == 0x008#32 && (match decode w with | .ok i => kind i | .error _ => false)
  | _ => false

/-- UNPACK_BEGIN, whatever its operands. -/
def isUnpackBegin (i : Instr) : Bool := match i with | .unpackBegin _ _ => true | _ => false

/-- PACK_BEGIN, whatever its operands. -/
def isPackBegin (i : Instr) : Bool := match i with | .packBegin _ _ _ => true | _ => false

/-- One unpack session is open through the next `k` steps: U_ACTIVE stays 1 and no UNPACK_BEGIN succeeds, since
that would start a new session (R11, R190). Any other command or transaction may run. -/
def UnpackLasts : Nat → State → Prop
  | 0, s => s.uActive = true
  | k + 1, s =>
    s.uActive = true ∧ ¬ (nextCommandIs isUnpackBegin s = true ∧ (stepTo s).err = 0) ∧ UnpackLasts k (stepTo s)

/-- One pack session is open through the next `k` steps: P_ACTIVE stays 1 and no PACK_BEGIN succeeds (R11, R233). -/
def PackLasts : Nat → State → Prop
  | 0, s => s.pActive = true
  | k + 1, s =>
    s.pActive = true ∧ ¬ (nextCommandIs isPackBegin s = true ∧ (stepTo s).err = 0) ∧ PackLasts k (stepTo s)

/-- How many UNPACK_NEXT commands the next `k` steps execute. -/
def nextsIn : Nat → State → Nat
  | 0, _ => 0
  | k + 1, s => (if nextCommandIs (· == .unpackNext) s then 1 else 0) + nextsIn k (stepTo s)

/-- The values of R_LO that the UNPACK_NEXT commands of the next `k` steps deliver, those that set U_VALID to 1, in
order (R190). -/
def deliveredIn : Nat → State → List Word
  | 0, _ => []
  | k + 1, s =>
    (if nextCommandIs (· == .unpackNext) s && (stepTo s).uValid then [(stepTo s).rLo] else []) ++
      deliveredIn k (stepTo s)

/-- The X_LO values of the successful PACK_PUSH commands of the next `k` steps, in order (R233). -/
def pushedIn : Nat → State → List Word
  | 0, _ => []
  | k + 1, s =>
    (if nextCommandIs (· == .packPush) s && (stepTo s).err == 0 then [s.xLo] else []) ++ pushedIn k (stepTo s)

/-- Bit `p` of what the packer holds: the whole bytes in DST, then the remainder byte (R230). -/
def packedSoFar (s : State) (p : Nat) : Bool :=
  if p / 8 < s.dstLen.toNat then (dstByte s (p / 8)).getLsbD (7 - p % 8) else s.pRByte.getLsbD (7 - p % 8)

/-- "the bytes in DST[0 .. DST_LEN-1] together with the top P_RLEN bits of P_RBYTE are exactly the first P_BITS
stream bits of Conjoin of the values pushed so far" (R230). -/
abbrev HoldsTheStreamOf (v : List Word) (s : State) : Prop :=
  v.length = s.pCount.toNat ∧ ∀ p < s.pBits.toNat, packedSoFar s p = packedBit v s.pN.toNat p

/-! ### Ill-formed transactions and illegal words, in the spec's own terms -/

/-- A transaction that R74 or R75 refuses: an unmapped address, or an access of another width or alignment than the
region accepts. Written with the addresses of R73 and R35. -/
abbrev AccessRefused (c : Config) (addr : Word) (width : Width) : Prop :=
  (addr.toNat < 0x1000 ∧ (0x060 ≤ addr.toNat ∨ addr.toNat % 4 ≠ 0 ∨ width ≠ .four)) ∨
  (0x1000 ≤ addr.toNat ∧ addr.toNat < 0x01000000) ∨
  (0x01000000 ≤ addr.toNat ∧ addr.toNat < 0x02000000 ∧ (c.srcBytes ≤ addr.toNat - 0x01000000 ∨ width ≠ .one)) ∨
  (0x02000000 ≤ addr.toNat ∧ addr.toNat < 0x03000000 ∧ (c.dstBytes ≤ addr.toNat - 0x02000000 ∨ width ≠ .one)) ∨
  0x03000000 ≤ addr.toNat

/-- The width of a write's data (R71). -/
def dataWidth : BusData → Width
  | .byte _ => .one
  | .half _ => .two
  | .word _ => .four

/-- The opcodes of format Z (R101, R110). -/
abbrev OpcodeZ (w : Word) : Prop := opcode w ∈ [0x00#8, 0x01#8, 0x21#8, 0x22#8, 0x31#8, 0x32#8]

/-- R111 with its four points, over masks of the word: an unassigned opcode, a reserved bit, WC = 3, REM != 0 with
RM = 0. -/
abbrev IllegalWord (w : Word) : Prop :=
  ¬ (OpcodeZ w ∨ opcode w ∈ [0x10#8, 0x18#8, 0x19#8, 0x20#8, 0x30#8]) ∨
  ((OpcodeZ w ∧ w &&& 0x00FFFFFF#32 ≠ 0) ∨ (opcode w = 0x18#8 ∧ w &&& 0x00FFF8C0#32 ≠ 0) ∨
    (opcode w = 0x19#8 ∧ w &&& 0x0000F8C0#32 ≠ 0) ∨ (opcode w = 0x20#8 ∧ w &&& 0x00FFFCC0#32 ≠ 0) ∨
    (opcode w = 0x30#8 ∧ w &&& 0x00FEC0C0#32 ≠ 0)) ∨
  (opcode w = 0x20#8 ∧ w &&& 0x00000300#32 = 0x00000300#32) ∨
  (opcode w = 0x30#8 ∧ w &&& 0x00010000#32 = 0 ∧ w &&& 0x00003F00#32 ≠ 0)

/-- A register at a byte offset reads as a number (R13, R76). -/
def readsAs (s : State) (offset : Nat) (value : Nat) : Prop :=
  ∃ d : Word, hostRead (BitVec.ofNat 32 offset) .four s = .okRead (.word d) ∧ d.toNat = value

end Sys2Proof.Machine
end

