-- ==== Sys2Proof/Certificates/Slice0/Obligations.lean ====
section
/-! DEFINITION. The statements for the provers. Each formalises rules of spec/, named in its docstring and in
OBLIGATIONS.json; where one rests on a choice of the model's, its docstring says so and names the log entry. -/

section
open Sys2Proof Sys2Proof.Machine

/-! ### Encoding -/

/-- 30_encoding.md R110, R113: words written out from the formats decode to the commands they stand for. -/
def Obligations.SampleWordsDecodeToTheirCommands : Prop :=
  decode 0x00000000#32 = .ok .nop ∧ decode 0x01000000#32 = .ok .softReset ∧
  decode 0x10000005#32 = .ok (.window 5) ∧ decode 0x18000404#32 = .ok (.sliceExtract 4 4) ∧
  decode 0x19C00206#32 = .ok (.sliceMerge 6 2 0xC0) ∧ decode 0x2000010B#32 = .ok (.unpackBegin 11 1) ∧
  decode 0x21000000#32 = .ok .unpackNext ∧ decode 0x22000000#32 = .ok .unpackEnd ∧
  decode 0x30010206#32 = .ok (.packBegin 6 2 true) ∧ decode 0x31000000#32 = .ok .packPush ∧
  decode 0x32000000#32 = .ok .packEnd

/-- Decode and encode agree on every well-formed command, with every operand at every value (R101 to R110). -/
def Obligations.DecodeOfEncodeIsTheCommand : Prop :=
  ∀ i : Instr, i.WellFormed → decode (encode i) = .ok i

/-- The other direction: each word has one meaning, and a decoded command is well-formed (R111, R112). -/
def Obligations.EncodeOfDecodeIsTheWord : Prop :=
  ∀ (w : Word) (i : Instr), decode w = .ok i → i.WellFormed ∧ encode i = w

/-- R111: a word is illegal when one of its four points holds, executing it raises ILLEGAL, and every other word is
one of the eleven commands; only the word 0 is NOP. -/
def Obligations.IllegalWordsRaiseIllegalAndNoOthers : Prop :=
  ∀ w : Word,
    (IllegalWord w → ∀ s : State, execCommand w s = .next (reported s 2 0 0 0 0)) ∧
    (¬ IllegalWord w → ∃ i : Instr, decode w = .ok i ∧ ∀ s : State, execCommand w s = exec i s) ∧
    (decode w = .ok .nop → w = 0)

/-! ### Steps -/

/-- R286: a host write of a word to CMD executes it. When the word decodes to a command, the step is `exec` of that
command; when it does not, ILLEGAL is raised; the HostWrite returns OK in both cases. Around `exec` the step takes
the input from the host's queue and records the answer (the model's own fields, log entries 3 and 4). -/
def Obligations.StepRunsTheDecodedCommand : Prop :=
  ∀ (s : State) (rest : List Input) (w : Word),
    s.inputs = .transaction (.hostWrite 0x008#32 (.word w)) :: rest →
    (∀ i : Instr, decode w = .ok i → ∀ t : State, exec i { s with inputs := rest } = .next t →
      step s = .next { t with responses := .okWrite :: t.responses }) ∧
    (∀ why : IllegalReason, decode w = .error why →
      step s = .next (answered (reported s 2 0 0 0 0) rest .okWrite))

/-- R70, R301 (the model's reading, log entry 5): with no transaction and no reset the state persists. -/
def Obligations.NoInputLeavesTheStateAsItIs : Prop :=
  ∀ s : State, s.inputs = [] → step s = .next s

/-- R327: every transaction and every command terminates, and there is no state in which the block cannot take the
next one: every step answers a next state, and a waiting input is taken. -/
def Obligations.EveryStepAnswersANextState : Prop :=
  ∀ s : State, ∃ t : State, step s = .next t ∧ t.inputs = s.inputs.tail

/-- 10_state.md section 7 (R62): a hard reset sets every stored component to 0 except SRC and DST, whose bytes are drawn.
The register images are those of R35's table, no DST byte is visible, and the constants survive this reset and
SOFT_RESET. The model's choices, which R62 does not state: that the drawn bytes are the free values indexed by the
count of hard resets (log entry 1), and that the queue and the recorded answers stay (log entries 3 and 4). -/
def Obligations.HardResetZeroesRegistersAndDrawsMemories : Prop :=
  ∀ (s : State) (rest : List Input), s.inputs = .hardReset :: rest →
    ∃ t : State, step s = .next t ∧ RegistersZero t ∧ t.cfg = s.cfg ∧
      (∀ i, srcByte t i = Config.srcDrawn (s.powerOns + 1) i) ∧
      (∀ i, dstByte t i = Config.dstDrawn (s.powerOns + 1) i) ∧
      (∀ i, dstVisible t i = 0) ∧
      (∀ r : Reg, registerImage r t =
        match r with
        | .ID | .VERSION | .SRC_CAP | .DST_CAP => registerImage r s
        | _ => 0) ∧
      (∀ u : State, exec .softReset s = .next u →
        ∀ r ∈ [Reg.ID, Reg.VERSION, Reg.SRC_CAP, Reg.DST_CAP], registerImage r u = registerImage r s) ∧
      t.inputs = rest ∧ t.responses = s.responses

/-- R38, R76, R82: a HostRead answers on the bus and changes nothing else. -/
def Obligations.ReadsHaveNoSideEffect : Prop :=
  ∀ (s : State) (rest : List Input) (addr : Word) (width : Width),
    s.inputs = .transaction (.hostRead addr width) :: rest →
    step s = .next (answered s rest (hostRead addr width s))

/-! ### Register images and memory reads -/

/-- R36, R37, R38, R45: the constants read as such and CMD reads 0, whatever the state. -/
def Obligations.IdentityRegistersReadTheirConstants : Prop :=
  ∀ s : State, s.cfg.Valid →
    readsAs s 0x000 0x4E424954 ∧ readsAs s 0x004 7 ∧ readsAs s 0x008 0 ∧
    readsAs s 0x034 s.cfg.srcBytes ∧ readsAs s 0x03C s.cfg.dstBytes

/-- R39, R40: the STATUS image, each field at its bit and the reserved bits 0, with U_DONE computed. -/
def Obligations.StatusImageHasItsFields : Prop :=
  ∀ s : State,
    readsAs s 0x00C (s.uActive.toNat + 2 * s.uValid.toNat +
      4 * (s.uActive && decide (8 * s.srcLen.toNat ≤ s.uPos.toNat)).toNat +
      8 * s.pActive.toNat + 16 * s.pDone.toNat + 256 * s.err.toNat + 4096 * s.sticky.toNat)

/-- R32, R33, R42, R43, R44, R46, R48, R49, R50, R53, R54: the registers that show one component. -/
def Obligations.OneComponentRegistersReadTheirComponent : Prop :=
  ∀ s : State,
    (readsAs s 0x010 s.errParam.toNat ∧ readsAs s 0x014 s.errValue.toNat ∧
      readsAs s 0x018 s.errMin.toNat ∧ readsAs s 0x01C s.errMax.toNat) ∧
    (readsAs s 0x020 s.xLo.toNat ∧ readsAs s 0x024 s.xHi.toNat ∧
      readsAs s 0x028 s.rLo.toNat ∧ readsAs s 0x02C s.rHi.toNat) ∧
    (readsAs s 0x030 s.srcLen.toNat ∧ readsAs s 0x038 s.dstLen.toNat) ∧
    (readsAs s 0x044 s.uPos.toNat ∧ readsAs s 0x048 s.uCount.toNat ∧ readsAs s 0x04C s.uRemain.toNat) ∧
    (readsAs s 0x058 s.pCount.toNat ∧ readsAs s 0x05C s.pBits.toNat)

/-- R47, R51, R52: U_CFG, P_CFG and P_REM, each field at its bit and all other bits 0. -/
def Obligations.ConfigurationImagesHaveTheirFields : Prop :=
  ∀ s : State,
    readsAs s 0x040 (s.uN.toNat + 256 * s.uWc.toNat) ∧
    readsAs s 0x050 (s.pN.toNat + 256 * s.pRemV.toNat + 65536 * s.pRm.toNat) ∧
    readsAs s 0x054 (s.pRByte.toNat + 256 * s.pRLen.toNat)

/-- R76, R78: a byte read of SRC gives `SRC[i]`; of DST it gives `DST[i]` below DST_LEN and 0 from there up to the
capacity. -/
def Obligations.BufferReadsGiveTheirBytes : Prop :=
  ∀ (s : State) (i : Nat), s.cfg.Valid →
    (i < s.cfg.srcBytes →
      hostRead (BitVec.ofNat 32 (0x01000000 + i)) .one s = .okRead (.byte (srcByte s i))) ∧
    (i < s.cfg.dstBytes → i < s.dstLen.toNat →
      hostRead (BitVec.ofNat 32 (0x02000000 + i)) .one s = .okRead (.byte (dstByte s i))) ∧
    (i < s.cfg.dstBytes → s.dstLen.toNat ≤ i →
      hostRead (BitVec.ofNat 32 (0x02000000 + i)) .one s = .okRead (.byte 0))

/-! ### Host writes -/

/-- R41: `if d[12] = 1 then STICKY <- 0`; every other bit is ignored and the write is never a bus error. -/
def Obligations.StatusWriteClearsStickyOnBit12 : Prop :=
  ∀ (s : State) (rest : List Input) (d : Word),
    s.inputs = .transaction (.hostWrite 0x00C#32 (.word d)) :: rest →
    (d.getLsbD 12 = true → step s = .next (answered { s with sticky := false } rest .okWrite)) ∧
    (d.getLsbD 12 = false → step s = .next (answered s rest .okWrite))

/-- R44: a host write of SRC_LEN is refused during an unpack session and above SRC_BYTES, else stored whole. -/
def Obligations.SrcLenWriteIsCheckedThenStored : Prop :=
  ∀ (s : State) (rest : List Input) (d : Word), s.cfg.Valid →
    s.inputs = .transaction (.hostWrite 0x030#32 (.word d)) :: rest →
    (s.uActive = true → step s = .next (answered s rest .busErr)) ∧
    (s.uActive = false → s.cfg.srcBytes < d.toNat → step s = .next (answered s rest .busErr)) ∧
    (s.uActive = false → d.toNat ≤ s.cfg.srcBytes →
      ∃ L : BitVec 25, L.toNat = d.toNat ∧ step s = .next (answered { s with srcLen := L } rest .okWrite))

/-- R77, R85: a byte write to SRC is refused during an unpack session; otherwise that byte reads as written, every
other byte of SRC as before, and nothing else changes. Offsets at and above SRC_LEN are accepted. -/
def Obligations.SrcByteWriteStoresOneByte : Prop :=
  ∀ (s : State) (rest : List Input) (i : Nat) (b : Byte), s.cfg.Valid → i < s.cfg.srcBytes →
    s.inputs = .transaction (.hostWrite (BitVec.ofNat 32 (0x01000000 + i)) (.byte b)) :: rest →
    (s.uActive = true → step s = .next (answered s rest .busErr)) ∧
    (s.uActive = false → ∃ m : Memory,
      step s = .next (answered { s with src := m } rest .okWrite) ∧
      srcByte { s with src := m } i = b ∧ ∀ j, j ≠ i → srcByte { s with src := m } j = srcByte s j)

/-- R32, R77: X_LO and X_HI take the host's data whole. -/
def Obligations.OperandRegisterWritesStoreTheData : Prop :=
  ∀ (s : State) (rest : List Input) (d : Word),
    (s.inputs = .transaction (.hostWrite 0x020#32 (.word d)) :: rest →
      step s = .next (answered { s with xLo := d } rest .okWrite)) ∧
    (s.inputs = .transaction (.hostWrite 0x024#32 (.word d)) :: rest →
      step s = .next (answered { s with xHi := d } rest .okWrite))

/-- R35, R77: a 32-bit write to a read-only register, and any write to DST, is a bus error and changes nothing. -/
def Obligations.ReadOnlyWritesAreRefused : Prop :=
  ∀ (s : State) (rest : List Input) (addr : Word) (data : BusData),
    s.inputs = .transaction (.hostWrite addr data) :: rest →
    addr ∈ [0x000#32, 0x004#32, 0x010#32, 0x014#32, 0x018#32, 0x01C#32, 0x028#32, 0x02C#32, 0x034#32, 0x038#32,
        0x03C#32, 0x040#32, 0x044#32, 0x048#32, 0x04C#32, 0x050#32, 0x054#32, 0x058#32, 0x05C#32] ∨
      0x02000000 ≤ addr.toNat →
    step s = .next (answered s rest .busErr)

/-- R74, R75: an unmapped address, another width or another alignment gets BUSERR, for reads and for writes. -/
def Obligations.UnmappedAndIllFormedAccessesAreRefused : Prop :=
  ∀ (s : State) (rest : List Input) (addr : Word),
    (∀ width : Width, AccessRefused s.cfg addr width →
      s.inputs = .transaction (.hostRead addr width) :: rest → step s = .next (answered s rest .busErr)) ∧
    (∀ data : BusData, AccessRefused s.cfg addr (dataWidth data) →
      s.inputs = .transaction (.hostWrite addr data) :: rest → step s = .next (answered s rest .busErr))

/-- R71: "A transaction that returns BUSERR changes no state: it sets no STATUS field and raises no command error." -/
def Obligations.BusErrorsChangeNoState : Prop :=
  ∀ (s t : State) (rest : List Input) (tr : Transaction),
    s.inputs = .transaction tr :: rest → step s = .next t → t.responses.head? = some .busErr →
    t.responses = .busErr :: s.responses → t = answered s rest .busErr

/-! ### The commands -/

/-- R261: NOP reports success and does nothing else. -/
def Obligations.NopOnlyReportsSuccess : Prop :=
  (∀ s : State, exec .nop s = .next (succeeded s)) ∧ decode 0x00000000#32 = .ok .nop ∧
  ∀ w : BitVec 24, w ≠ 0 → ∀ s : State, execCommand (0x00#8 ++ w) s = .next (reported s 2 0 0 0 0)

/-- R262: SOFT_RESET sets every stored component other than SRC and DST to 0; both memories keep every byte. The
model's own fields stay (log entries 1 to 4). -/
def Obligations.SoftResetZeroesRegistersAndKeepsMemories : Prop :=
  (∀ s : State, ∃ t : State, exec .softReset s = .next t ∧ RegistersZero t ∧
    t.src = s.src ∧ t.dst = s.dst ∧ (∀ i, srcByte t i = srcByte s i) ∧ (∀ i, dstByte t i = dstByte s i) ∧
    t.cfg = s.cfg ∧ t.powerOns = s.powerOns ∧ t.inputs = s.inputs ∧ t.responses = s.responses) ∧
  decode 0x01000000#32 = .ok .softReset ∧
  ∀ w : BitVec 24, w ≠ 0 → ∀ s : State, execCommand (0x01#8 ++ w) s = .next (reported s 2 0 0 0 0)

/-- R146: WINDOW writes the window of the source buffer to R_HI:R_LO, or raises RANGE when the offset is at or above
SRC_LEN. Nothing else but the outcome registers changes. -/
def Obligations.WindowReturnsTheWindowOrRaisesRange : Prop :=
  ∀ off : BitVec 24,
    (∀ s : State, off.toNat < s.srcLen.toNat →
      exec (.window off) s = .next (succeeded { s with
        rHi := (window (srcByte s) s.srcLen.toNat off.toNat).extractLsb' 32 32
        rLo := (window (srcByte s) s.srcLen.toNat off.toNat).extractLsb' 0 32 })) ∧
    (∀ s : State, s.srcLen.toNat ≤ off.toNat → exec (.window off) s = .next (reported s 4 0 0 0 0)) ∧
    decode (0x10#8 ++ off) = .ok (.window off)

/-- R165: SLICE_EXTRACT writes Extract of X_HI:X_LO to R_LO and 0 to R_HI, or raises CONFIG on `n`; with a reserved
bit set the word raises ILLEGAL. -/
def Obligations.SliceExtractReturnsTheFieldOrRaisesConfig : Prop :=
  ∀ (n : BitVec 6) (b : BitVec 3),
    (∀ s : State, 1 ≤ n.toNat → n.toNat ≤ 32 →
      exec (.sliceExtract n b) s = .next (succeeded { s with
        rLo := extract (s.xHi ++ s.xLo) b.toNat n.toNat, rHi := 0 })) ∧
    (∀ s : State, n.toNat < 1 ∨ 32 < n.toNat →
      exec (.sliceExtract n b) s = .next (reported s 1 1 (n.setWidth 32) 1 32)) ∧
    decode (0x18#8 ++ 0#13 ++ b ++ 0#2 ++ n) = .ok (.sliceExtract n b) ∧
    (∀ w : Word, opcode w = 0x18#8 → w &&& 0x00FFF8C0#32 ≠ 0 →
      ∀ s : State, execCommand w s = .next (reported s 2 0 0 0 0))

/-- R167: SLICE_MERGE writes Merge of X_LO under the command's remainder to R_HI:R_LO, or raises CONFIG on `n`; with a
reserved bit set the word raises ILLEGAL. -/
def Obligations.SliceMergeReturnsTheWindowOrRaisesConfig : Prop :=
  ∀ (n : BitVec 6) (rl : BitVec 3) (rb : BitVec 8),
    (∀ s : State, 1 ≤ n.toNat → n.toNat ≤ 32 →
      exec (.sliceMerge n rl rb) s = .next (succeeded { s with
        rHi := (merge rb rl.toNat s.xLo n.toNat).extractLsb' 32 32
        rLo := (merge rb rl.toNat s.xLo n.toNat).extractLsb' 0 32 })) ∧
    (∀ s : State, n.toNat < 1 ∨ 32 < n.toNat →
      exec (.sliceMerge n rl rb) s = .next (reported s 1 1 (n.setWidth 32) 1 32)) ∧
    decode (0x19#8 ++ rb ++ 0#5 ++ rl ++ 0#2 ++ n) = .ok (.sliceMerge n rl rb) ∧
    (∀ w : Word, opcode w = 0x19#8 → w &&& 0x0000F8C0#32 ≠ 0 →
      ∀ s : State, execCommand w s = .next (reported s 2 0 0 0 0))

/-- R185: UNPACK_BEGIN opens a session over the current source buffer, whatever session was open, or raises CONFIG on
`n` outside `[1, min(32, W)]` with `W = 8 << wc`; a reserved bit or the reserved width code raises ILLEGAL. -/
def Obligations.UnpackBeginOpensASessionOrRaisesConfig : Prop :=
  ∀ (n : BitVec 6) (wc : BitVec 2),
    (wc ≠ 3#2 →
      (∀ s : State, 1 ≤ n.toNat → n.toNat ≤ min 32 (8 * 2 ^ wc.toNat) →
        exec (.unpackBegin n wc) s = .next (succeeded { s with
          uN := n, uWc := wc, uPos := 0, uCount := 0
          uRemain := BitVec.ofNat 6
            (if 8 * s.srcLen.toNat % n.toNat = 0 then 0 else n.toNat - 8 * s.srcLen.toNat % n.toNat)
          uActive := true, uValid := false })) ∧
      (∀ s : State, n.toNat < 1 ∨ min 32 (8 * 2 ^ wc.toNat) < n.toNat →
        exec (.unpackBegin n wc) s =
          .next (reported s 1 1 (n.setWidth 32) 1 (BitVec.ofNat 32 (min 32 (8 * 2 ^ wc.toNat))))) ∧
      decode (0x20#8 ++ 0#14 ++ wc ++ 0#2 ++ n) = .ok (.unpackBegin n wc)) ∧
    (∀ w : Word, opcode w = 0x20#8 → w &&& 0x00FFFCC0#32 ≠ 0 ∨ w &&& 0x00000300#32 = 0x00000300#32 →
      ∀ s : State, execCommand w s = .next (reported s 2 0 0 0 0))

/-- R187 with R188: UNPACK_NEXT delivers the group at the cursor while it starts inside the data, reports that none
is left when it does not, and raises STATE with no open session. -/
def Obligations.UnpackNextDeliversTheGroupAtTheCursor : Prop :=
  (∀ s : State, s.uActive = true → s.uPos.toNat < 8 * s.srcLen.toNat →
    exec .unpackNext s = .next (succeeded { s with
      rLo := extract (window (srcByte s) s.srcLen.toNat (s.uPos.toNat / 8)) (s.uPos.toNat % 8) s.uN.toNat
      rHi := 0
      uPos := s.uPos + s.uN.setWidth 32, uCount := s.uCount + 1, uValid := true })) ∧
  (∀ s : State, s.uActive = true → 8 * s.srcLen.toNat ≤ s.uPos.toNat →
    exec .unpackNext s = .next (succeeded { s with rLo := 0, rHi := 0, uValid := false })) ∧
  (∀ s : State, s.uActive = false → exec .unpackNext s = .next (reported s 3 0 0 0 0)) ∧
  decode 0x21000000#32 = .ok .unpackNext ∧
  ∀ w : BitVec 24, w ≠ 0 → ∀ s : State, execCommand (0x21#8 ++ w) s = .next (reported s 2 0 0 0 0)

/-- R189: UNPACK_END closes the session and keeps the other U_ registers; STATE with none open. -/
def Obligations.UnpackEndClosesTheSession : Prop :=
  (∀ s : State, s.uActive = true →
    exec .unpackEnd s = .next (succeeded { s with uActive := false, uValid := false })) ∧
  (∀ s : State, s.uActive = false → exec .unpackEnd s = .next (reported s 3 0 0 0 0)) ∧
  decode 0x22000000#32 = .ok .unpackEnd ∧
  ∀ w : BitVec 24, w ≠ 0 → ∀ s : State, execCommand (0x22#8 ++ w) s = .next (reported s 2 0 0 0 0)

/-- R226 with R290: PACK_BEGIN opens a session and empties the output, or raises CONFIG on `n` first and then on
`remain`; a reserved bit, or REM != 0 without RM, raises ILLEGAL. -/
def Obligations.PackBeginOpensASessionOrRaisesConfig : Prop :=
  ∀ (n rem : BitVec 6) (rm : Bool),
    ((rm = false → rem = 0) →
      (∀ s : State, 1 ≤ n.toNat → n.toNat ≤ 32 → (rm = true → rem.toNat < n.toNat) →
        exec (.packBegin n rem rm) s = .next (succeeded { s with
          pN := n, pRemV := rem, pRm := rm
          pRByte := 0, pRLen := 0, pCount := 0, pBits := 0, dstLen := 0
          pActive := true, pDone := false })) ∧
      (∀ s : State, n.toNat < 1 ∨ 32 < n.toNat →
        exec (.packBegin n rem rm) s = .next (reported s 1 1 (n.setWidth 32) 1 32)) ∧
      (∀ s : State, 1 ≤ n.toNat → n.toNat ≤ 32 → rm = true → n.toNat ≤ rem.toNat →
        exec (.packBegin n rem rm) s =
          .next (reported s 1 2 (rem.setWidth 32) 0 (BitVec.ofNat 32 (n.toNat - 1)))) ∧
      decode (0x30#8 ++ 0#7 ++ BitVec.ofBool rm ++ 0#2 ++ rem ++ 0#2 ++ n) = .ok (.packBegin n rem rm)) ∧
    (∀ w : Word, opcode w = 0x30#8 →
      w &&& 0x00FEC0C0#32 ≠ 0 ∨ (w &&& 0x00010000#32 = 0 ∧ w &&& 0x00003F00#32 ≠ 0) →
      ∀ s : State, execCommand w s = .next (reported s 2 0 0 0 0))

/-- R229 with R228: PACK_PUSH stores the `k = (n + rl) div 8` top bytes of Merge at DST_LEN, keeps the next byte and
`(n + rl) mod 8` as the remainder and counts the value; every other byte of DST and every other register stays. STATE
with no open session; CAPACITY, with no other effect, when the bytes do not fit. -/
def Obligations.PackPushPacksTheOperand : Prop :=
  (∀ s : State, s.cfg.Valid → s.pActive = true →
    s.dstLen.toNat + (s.pN.toNat + s.pRLen.toNat) / 8 ≤ s.cfg.dstBytes →
    ∃ t : State, exec .packPush s = .next t ∧
      (∀ j < (s.pN.toNat + s.pRLen.toNat) / 8, dstByte t (s.dstLen.toNat + j) =
        (merge s.pRByte s.pRLen.toNat s.xLo s.pN.toNat).extractLsb' (56 - 8 * j) 8) ∧
      (∀ a, a < s.dstLen.toNat ∨ s.dstLen.toNat + (s.pN.toNat + s.pRLen.toNat) / 8 ≤ a →
        dstByte t a = dstByte s a) ∧
      t.dstLen.toNat = s.dstLen.toNat + (s.pN.toNat + s.pRLen.toNat) / 8 ∧
      t.pRByte = (merge s.pRByte s.pRLen.toNat s.xLo s.pN.toNat).extractLsb'
        (56 - 8 * ((s.pN.toNat + s.pRLen.toNat) / 8)) 8 ∧
      t.pRLen.toNat = (s.pN.toNat + s.pRLen.toNat) % 8 ∧
      t = succeeded { s with
        dst := t.dst, dstLen := t.dstLen, pRByte := t.pRByte, pRLen := t.pRLen
        pCount := s.pCount + 1, pBits := s.pBits + s.pN.setWidth 32 }) ∧
  (∀ s : State, s.pActive = false → exec .packPush s = .next (reported s 3 0 0 0 0)) ∧
  (∀ s : State, s.pActive = true → s.cfg.dstBytes < s.dstLen.toNat + (s.pN.toNat + s.pRLen.toNat) / 8 →
    exec .packPush s = .next (reported s 5 0 0 0 0)) ∧
  decode 0x31000000#32 = .ok .packPush ∧
  ∀ w : BitVec 24, w ≠ 0 → ∀ s : State, execCommand (0x31#8 ++ w) s = .next (reported s 2 0 0 0 0)

/-- R232 with R228: PACK_END sets DST_LEN to `F = ceil(max(0, P_BITS - cut) / 8)`, stores the remainder byte at the
old DST_LEN exactly when `F` exceeds it, and closes the session; every other byte of DST and every other register
stays. STATE with no open session; CAPACITY, with no other effect, when `F` exceeds DST_BYTES. -/
def Obligations.PackEndFlushesTruncatesAndCloses : Prop :=
  (∀ (s : State) (F : Nat), s.cfg.Valid → s.pActive = true →
    F = (s.pBits.toNat - (if s.pRm = true then s.pRemV.toNat else 0) + 7) / 8 →
    (F ≤ s.cfg.dstBytes →
      ∃ t : State, exec .packEnd s = .next t ∧ t.dstLen.toNat = F ∧
        (s.dstLen.toNat < F → dstByte t s.dstLen.toNat = s.pRByte) ∧
        (∀ a, F ≤ s.dstLen.toNat ∨ a ≠ s.dstLen.toNat → dstByte t a = dstByte s a) ∧
        t = succeeded { s with
          dst := t.dst, dstLen := t.dstLen, pRByte := 0, pRLen := 0, pActive := false, pDone := true }) ∧
    (s.cfg.dstBytes < F → exec .packEnd s = .next (reported s 5 0 0 0 0))) ∧
  (∀ s : State, s.pActive = false → exec .packEnd s = .next (reported s 3 0 0 0 0)) ∧
  decode 0x32000000#32 = .ok .packEnd ∧
  ∀ w : BitVec 24, w ≠ 0 → ∀ s : State, execCommand (0x32#8 ++ w) s = .next (reported s 2 0 0 0 0)

/-! ### Outcomes -/

/-- R287: when a command reports an error, only ERR, STICKY and the ERR_* registers change, and all ERR_* are 0 unless
the error is CONFIG. -/
def Obligations.FailingCommandsChangeOnlyTheOutcome : Prop :=
  ∀ (i : Instr) (s t : State), exec i s = .next t → t.err ≠ 0 →
    t = reported s t.err t.errParam t.errValue t.errMin t.errMax ∧
    (t.err ≠ 1 → t.errParam = 0 ∧ t.errValue = 0 ∧ t.errMin = 0 ∧ t.errMax = 0)

/-- R288: a successful command zeroes ERR and ERR_*, and STICKY keeps its value unless the command is SOFT_RESET. -/
def Obligations.SuccessfulCommandsZeroTheOutcome : Prop :=
  ∀ (i : Instr) (s t : State), exec i s = .next t → t.err = 0 →
    t.errParam = 0 ∧ t.errValue = 0 ∧ t.errMin = 0 ∧ t.errMax = 0 ∧ (i ≠ .softReset → t.sticky = s.sticky)

/-- R282 to R285: exactly when each command error is raised, over all commands a word can decode to. RANGE is raised
by WINDOW alone, STATE by no BEGIN; ILLEGAL is no outcome of a decoded command, and 6 to 15 are none at all (R281). -/
def Obligations.EachErrorIsRaisedExactlyForItsCause : Prop :=
  ∀ (i : Instr) (s t : State), i.WellFormed → exec i s = .next t →
    (t.err.toNat ≤ 5 ∧ t.err ≠ 2) ∧
    (t.err = 1 ↔ match i with
      | .sliceExtract n _ | .sliceMerge n _ _ => n.toNat < 1 ∨ 32 < n.toNat
      | .unpackBegin n wc => n.toNat < 1 ∨ min 32 (8 * 2 ^ wc.toNat) < n.toNat
      | .packBegin n rem rm => n.toNat < 1 ∨ 32 < n.toNat ∨ (rm = true ∧ n.toNat ≤ rem.toNat)
      | _ => False) ∧
    (t.err = 3 ↔ match i with
      | .unpackNext | .unpackEnd => s.uActive = false
      | .packPush | .packEnd => s.pActive = false
      | _ => False) ∧
    (t.err = 4 ↔ match i with
      | .window off => s.srcLen.toNat ≤ off.toNat
      | _ => False) ∧
    (t.err = 5 ↔ match i with
      | .packPush => s.pActive = true ∧ s.cfg.dstBytes < s.dstLen.toNat + (s.pN.toNat + s.pRLen.toNat) / 8
      | .packEnd => s.pActive = true ∧
        s.cfg.dstBytes < (s.pBits.toNat - (if s.pRm = true then s.pRemV.toNat else 0) + 7) / 8
      | _ => False)

/-! ### What the commands compute -/

/-- R143: bit by bit, the window is the zero-extended stream from stream bit `8*i`. -/
def Obligations.WindowBitsAreStreamBits : Prop :=
  ∀ (buffer : Nat → Byte) (L i k : Nat), i < L → k ≤ 63 →
    (window buffer L i).getLsbD (63 - k) = streamBit buffer L (8 * i + k)

/-- R160: bit `n-1-q` of Extract is window bit `63 - b - q`; the result is below `2^n`. -/
def Obligations.ExtractTakesTheFieldBelowTheOffset : Prop :=
  ∀ (win : DWord) (b n : Nat), b ≤ 7 → 1 ≤ n → n ≤ 32 →
    (∀ q < n, (extract win b n).getLsbD (n - 1 - q) = win.getLsbD (63 - b - q)) ∧
    (extract win b n).toNat < 2 ^ n

/-- R162: bits 63 down to `64 - rl` of Merge are the top bits of `rb`, the next `n` are `m[n-1:0]`, the rest 0. -/
def Obligations.MergeConcatenatesRemainderAndValue : Prop :=
  ∀ (rb : Byte) (rl : Nat) (m : Word) (n : Nat), rl ≤ 7 → 1 ≤ n → n ≤ 32 →
    (∀ q < rl, (merge rb rl m n).getLsbD (63 - q) = rb.getLsbD (7 - q)) ∧
    (∀ q < n, (merge rb rl m n).getLsbD (63 - rl - q) = m.getLsbD (n - 1 - q)) ∧
    (∀ q < 64 - rl - n, (merge rb rl m n).getLsbD q = false)

/-- R183: Remain equals `ceil(8L/n)*n - 8L`, lies in `[0, n-1]`, and is 0 for `L = 0`. -/
def Obligations.RemainIsThePaddingOfTheLastGroup : Prop :=
  ∀ L n : Nat, 1 ≤ n →
    remain L n = (if 8 * L % n = 0 then 0 else n - 8 * L % n) ∧
    remain L n + 8 * L = (8 * L + n - 1) / n * n ∧ remain L n ≤ n - 1 ∧ remain 0 n = 0

/-- R181, R182, R191: the sequence has `ceil(8L/n)` values, each below `2^n`; an empty buffer gives none. -/
def Obligations.ChunksHaveTheirCountAndWidth : Prop :=
  ∀ (buffer : Nat → Byte) (L n : Nat), 1 ≤ n → n ≤ 32 →
    (chunks buffer L n).length = (8 * L + n - 1) / n ∧ (∀ v ∈ chunks buffer L n, v.toNat < 2 ^ n) ∧
    chunks buffer 0 n = []

/-- R223: ConjoinRem is the prefix of Conjoin of length `F`, which drops `(pad + r) div 8` trailing bytes. -/
def Obligations.ConjoinRemDropsPadAndRemainBytes : Prop :=
  ∀ (v : List Word) (n r : Nat), 1 ≤ n → n ≤ 32 → r < n →
    (conjoinRem v n r).length = (v.length * n - r + 7) / 8 ∧ conjoinRem v n r <+: conjoin v n ∧
    (conjoinRem v n r).length =
      (conjoin v n).length - ((8 * ((v.length * n + 7) / 8) - v.length * n) + r) / 8

/-- R224: the round trip of the reference functions, for every buffer and every width. -/
def Obligations.ConjoinRemOfChunksIsTheBuffer : Prop :=
  ∀ (buffer : Nat → Byte) (L n : Nat), 1 ≤ n → n ≤ 32 →
    conjoinRem (chunks buffer L n) n (remain L n) = (List.range L).map buffer

/-! ### Whole-machine rules -/

/-- R32, R33, R44, R46, R47, R50, R51, R57, and R39's column "written by" for the session flags: which commands may write
each memory and each register, over all commands (SOFT_RESET apart, which R262 lets write every register). ERR, STICKY
and ERR_* are left to the statements of R287 and R288. That `cfg`, `powerOns`, `inputs` and `responses` stay is about
the model's own fields (log entries 1 to 4), not a rule of the spec. -/
def Obligations.CommandsWriteOnlyTheirOwnPart : Prop :=
  ∀ (i : Instr) (s t : State), exec i s = .next t →
    t.src = s.src ∧ t.cfg = s.cfg ∧ t.powerOns = s.powerOns ∧ t.inputs = s.inputs ∧ t.responses = s.responses ∧
    (i ≠ .packPush → i ≠ .packEnd → t.dst = s.dst) ∧
    (i ≠ .softReset → t.srcLen = s.srcLen ∧ t.xLo = s.xLo ∧ t.xHi = s.xHi) ∧
    (i ≠ .softReset → i ≠ .unpackNext →
      (∀ off, i ≠ .window off) → (∀ n b, i ≠ .sliceExtract n b) → (∀ n rl rb, i ≠ .sliceMerge n rl rb) →
      t.rLo = s.rLo ∧ t.rHi = s.rHi) ∧
    (i ≠ .softReset → isUnpackBegin i = false →
      t.uN = s.uN ∧ t.uWc = s.uWc ∧ t.uRemain = s.uRemain ∧
      (i ≠ .unpackNext → t.uPos = s.uPos ∧ t.uCount = s.uCount) ∧
      (i ≠ .unpackEnd → t.uActive = s.uActive) ∧
      (i ≠ .unpackNext → i ≠ .unpackEnd → t.uValid = s.uValid)) ∧
    (i ≠ .softReset → isPackBegin i = false →
      t.pN = s.pN ∧ t.pRemV = s.pRemV ∧ t.pRm = s.pRm ∧
      (i ≠ .packPush → t.pCount = s.pCount ∧ t.pBits = s.pBits) ∧
      (i ≠ .packEnd → t.pActive = s.pActive ∧ t.pDone = s.pDone) ∧
      (i ≠ .packPush → i ≠ .packEnd → t.dstLen = s.dstLen ∧ t.pRByte = s.pRByte ∧ t.pRLen = s.pRLen))

/-- R192: the unpacker and the packer share no state. An unpacker command run beside any other packer state does the
same to its own part and leaves that packer state as it was; and the other way round. -/
def Obligations.UnpackerAndPackerShareNoState : Prop :=
  (∀ (i : Instr) (s p t : State), isUnpackBegin i = true ∨ i = .unpackNext ∨ i = .unpackEnd →
    exec i s = .next t → exec i (withPackerOf p s) = .next (withPackerOf p t)) ∧
  (∀ (i : Instr) (s u t : State), isPackBegin i = true ∨ i = .packPush ∨ i = .packEnd →
    exec i s = .next t → exec i (withUnpackerOf u s) = .next (withUnpackerOf u t))

/-- R48, R186: the cursor moves only by UNPACK_NEXT, UNPACK_BEGIN, SOFT_RESET and a hard reset, over all inputs. -/
def Obligations.OnlyUnpackCommandsAndResetsMoveTheCursor : Prop :=
  ∀ s t : State, step s = .next t → t.uPos ≠ s.uPos →
    s.inputs.head? = some .hardReset ∨
    nextCommandIs (fun i => isUnpackBegin i || i == .unpackNext || i == .softReset) s = true

/-- R88: SRC and SRC_LEN cannot change while an unpack session stays open, whatever the host does. -/
def Obligations.SourceIsLockedWhileASessionIsOpen : Prop :=
  ∀ s t : State, step s = .next t → s.uActive = true → t.uActive = true →
    t.srcLen = s.srcLen ∧ t.src = s.src ∧ ∀ i, srcByte t i = srcByte s i

/-! ### Invariants -/

/-- After reset every register is 0 and obeys its laws, in every configuration R12 allows; so also in `State.reset`,
whose configuration is the model's choice (log entry 2). -/
def Obligations.ResetStateIsSound : Prop :=
  (∀ c : Config, RegistersZero (State.resetOf c)) ∧ (∀ c : Config, c.Valid → StateSound (State.resetOf c)) ∧
  StateSound State.reset

/-- R44, R46, R50, R52, R55, R56 and R62's remark on DST: every step, for every input, keeps every law of 10_state.md,
and the configuration. -/
def Obligations.EveryStepKeepsTheRegisterLaws : Prop :=
  ∀ s t : State, StateSound s → step s = .next t → StateSound t ∧ t.cfg = s.cfg

/-- R48, R49, R53, R54: in a sound state the counters stay below their bounds, so the next addition does not wrap. -/
def Obligations.CountersNeverWrap : Prop :=
  ∀ s : State, StateSound s →
    (s.uActive = true → s.uPos.toNat < 2 ^ 28 ∧ s.uCount.toNat ≤ 2 ^ 27) ∧
    (s.pActive = true → s.pBits.toNat < 8 * s.cfg.dstBytes + 8 ∧ s.pCount.toNat ≤ 8 * s.cfg.dstBytes + 7)

/-! ### Sessions -/

/-- R187, R190: in a sound state, UNPACK_NEXT delivers `Chunks(SRC, SRC_LEN, U_N)[U_COUNT]` exactly while U_COUNT is
below `ceil(8L/n)`. -/
def Obligations.UnpackNextDeliversTheNextChunk : Prop :=
  ∀ s : State, StateSound s → s.uActive = true →
    ∃ t : State, exec .unpackNext s = .next t ∧
      (t.uValid = true ↔ s.uCount.toNat < (8 * s.srcLen.toNat + s.uN.toNat - 1) / s.uN.toNat) ∧
      (t.uValid = true → t.uCount.toNat = s.uCount.toNat + 1 ∧
        t.rLo.toNat = chunk (srcByte s) s.srcLen.toNat s.uN.toNat s.uCount.toNat) ∧
      (t.uValid = false → t.uCount = s.uCount ∧ t.rLo = 0)

/-- R190: take an UNPACK_BEGIN that succeeds and any run in which its session stays open, whatever other commands and
transactions it holds: the values delivered are the first values of Chunks of the buffer as it stood, one for each
UNPACK_NEXT until they are used up, and U_REMAIN is Remain throughout. -/
def Obligations.UnpackSessionsDeliverChunks : Prop :=
  ∀ (s₀ s : State) (n : BitVec 6) (wc : BitVec 2) (k : Nat), StateSound s₀ →
    exec (.unpackBegin n wc) s₀ = .next s → s.err = 0 → UnpackLasts k s →
    deliveredIn k s = (chunks (srcByte s₀) s₀.srcLen.toNat n.toNat).take (nextsIn k s) ∧
    (afterSteps k s).uRemain.toNat = remain s₀.srcLen.toNat n.toNat

/-- R230: a successful PACK_PUSH in a sound state whose output and remainder hold the stream of `v` leaves one that
holds the stream of `v` and X_LO. -/
def Obligations.PackPushAppendsToTheStream : Prop :=
  ∀ (s t : State) (v : List Word), StateSound s → HoldsTheStreamOf v s →
    exec .packPush s = .next t → t.err = 0 → HoldsTheStreamOf (v ++ [s.xLo]) t

/-- R230: in a sound state a push makes between 1 and 38 bits ready and emits at most 4 bytes, since P_RLEN is a multiple
of `gcd(n, 8)`; and across any run in which a pack session stays open, the bytes in DST and the remainder hold exactly
the stream of the values pushed so far. -/
def Obligations.PackSessionsHoldTheStreamPushed : Prop :=
  (∀ s : State, StateSound s → s.pActive = true →
    1 ≤ s.pN.toNat + s.pRLen.toNat ∧ s.pN.toNat + s.pRLen.toNat ≤ 38 ∧ (s.pN.toNat + s.pRLen.toNat) / 8 ≤ 4 ∧
    s.pRLen.toNat = s.pBits.toNat % 8 ∧ Nat.gcd s.pN.toNat 8 ∣ s.pRLen.toNat) ∧
  ∀ (s₀ s : State) (n rem : BitVec 6) (rm : Bool) (k : Nat), StateSound s₀ →
    exec (.packBegin n rem rm) s₀ = .next s → s.err = 0 → PackLasts k s →
    HoldsTheStreamOf (pushedIn k s) (afterSteps k s) ∧
    (afterSteps k s).dstLen.toNat = (afterSteps k s).pBits.toNat / 8 ∧
    (afterSteps k s).pRLen.toNat = (afterSteps k s).pBits.toNat % 8

/-- R233: take a successful PACK_BEGIN, any run in which its session stays open, and a successful PACK_END: the output
buffer is Conjoin of the values pushed, or ConjoinRem in the remain-aware form, whatever else ran in between. -/
def Obligations.PackSessionsOutputConjoin : Prop :=
  ∀ (s₀ s t : State) (n rem : BitVec 6) (rm : Bool) (k : Nat), StateSound s₀ →
    exec (.packBegin n rem rm) s₀ = .next s → s.err = 0 → PackLasts k s →
    exec .packEnd (afterSteps k s) = .next t → t.err = 0 →
    (List.range t.dstLen.toNat).map (dstByte t) =
      if rm = true then conjoinRem (pushedIn k s) n.toNat rem.toNat else conjoin (pushedIn k s) n.toNat

end
end

