-- ==== Sys2Proof/Laws/State.lean ====
section
/-! SUPPORT. One lemma per field per update of State, so that no later proof unfolds a record update. -/

namespace Sys2Proof.Machine


/-! ### setR32 -/

@[simp] theorem setR32_src (v : Word) (s : State) : (setR32 v s).src = s.src := rfl
@[simp] theorem setR32_dst (v : Word) (s : State) : (setR32 v s).dst = s.dst := rfl
@[simp] theorem setR32_srcLen (v : Word) (s : State) : (setR32 v s).srcLen = s.srcLen := rfl
@[simp] theorem setR32_dstLen (v : Word) (s : State) : (setR32 v s).dstLen = s.dstLen := rfl
@[simp] theorem setR32_xLo (v : Word) (s : State) : (setR32 v s).xLo = s.xLo := rfl
@[simp] theorem setR32_xHi (v : Word) (s : State) : (setR32 v s).xHi = s.xHi := rfl
@[simp] theorem setR32_rLo (v : Word) (s : State) : (setR32 v s).rLo = v := rfl
@[simp] theorem setR32_rHi (v : Word) (s : State) : (setR32 v s).rHi = 0 := rfl
@[simp] theorem setR32_uActive (v : Word) (s : State) : (setR32 v s).uActive = s.uActive := rfl
@[simp] theorem setR32_uValid (v : Word) (s : State) : (setR32 v s).uValid = s.uValid := rfl
@[simp] theorem setR32_pActive (v : Word) (s : State) : (setR32 v s).pActive = s.pActive := rfl
@[simp] theorem setR32_pDone (v : Word) (s : State) : (setR32 v s).pDone = s.pDone := rfl
@[simp] theorem setR32_sticky (v : Word) (s : State) : (setR32 v s).sticky = s.sticky := rfl
@[simp] theorem setR32_err (v : Word) (s : State) : (setR32 v s).err = s.err := rfl
@[simp] theorem setR32_errParam (v : Word) (s : State) : (setR32 v s).errParam = s.errParam := rfl
@[simp] theorem setR32_errValue (v : Word) (s : State) : (setR32 v s).errValue = s.errValue := rfl
@[simp] theorem setR32_errMin (v : Word) (s : State) : (setR32 v s).errMin = s.errMin := rfl
@[simp] theorem setR32_errMax (v : Word) (s : State) : (setR32 v s).errMax = s.errMax := rfl
@[simp] theorem setR32_uN (v : Word) (s : State) : (setR32 v s).uN = s.uN := rfl
@[simp] theorem setR32_uWc (v : Word) (s : State) : (setR32 v s).uWc = s.uWc := rfl
@[simp] theorem setR32_uPos (v : Word) (s : State) : (setR32 v s).uPos = s.uPos := rfl
@[simp] theorem setR32_uCount (v : Word) (s : State) : (setR32 v s).uCount = s.uCount := rfl
@[simp] theorem setR32_uRemain (v : Word) (s : State) : (setR32 v s).uRemain = s.uRemain := rfl
@[simp] theorem setR32_pN (v : Word) (s : State) : (setR32 v s).pN = s.pN := rfl
@[simp] theorem setR32_pRemV (v : Word) (s : State) : (setR32 v s).pRemV = s.pRemV := rfl
@[simp] theorem setR32_pRm (v : Word) (s : State) : (setR32 v s).pRm = s.pRm := rfl
@[simp] theorem setR32_pRByte (v : Word) (s : State) : (setR32 v s).pRByte = s.pRByte := rfl
@[simp] theorem setR32_pRLen (v : Word) (s : State) : (setR32 v s).pRLen = s.pRLen := rfl
@[simp] theorem setR32_pCount (v : Word) (s : State) : (setR32 v s).pCount = s.pCount := rfl
@[simp] theorem setR32_pBits (v : Word) (s : State) : (setR32 v s).pBits = s.pBits := rfl
@[simp] theorem setR32_cfg (v : Word) (s : State) : (setR32 v s).cfg = s.cfg := rfl
@[simp] theorem setR32_powerOns (v : Word) (s : State) : (setR32 v s).powerOns = s.powerOns := rfl
@[simp] theorem setR32_inputs (v : Word) (s : State) : (setR32 v s).inputs = s.inputs := rfl
@[simp] theorem setR32_responses (v : Word) (s : State) : (setR32 v s).responses = s.responses := rfl

/-! ### setR64 -/

@[simp] theorem setR64_src (v : DWord) (s : State) : (setR64 v s).src = s.src := rfl
@[simp] theorem setR64_dst (v : DWord) (s : State) : (setR64 v s).dst = s.dst := rfl
@[simp] theorem setR64_srcLen (v : DWord) (s : State) : (setR64 v s).srcLen = s.srcLen := rfl
@[simp] theorem setR64_dstLen (v : DWord) (s : State) : (setR64 v s).dstLen = s.dstLen := rfl
@[simp] theorem setR64_xLo (v : DWord) (s : State) : (setR64 v s).xLo = s.xLo := rfl
@[simp] theorem setR64_xHi (v : DWord) (s : State) : (setR64 v s).xHi = s.xHi := rfl
@[simp] theorem setR64_rLo (v : DWord) (s : State) : (setR64 v s).rLo = v.extractLsb' 0 32 := rfl
@[simp] theorem setR64_rHi (v : DWord) (s : State) : (setR64 v s).rHi = v.extractLsb' 32 32 := rfl
@[simp] theorem setR64_uActive (v : DWord) (s : State) : (setR64 v s).uActive = s.uActive := rfl
@[simp] theorem setR64_uValid (v : DWord) (s : State) : (setR64 v s).uValid = s.uValid := rfl
@[simp] theorem setR64_pActive (v : DWord) (s : State) : (setR64 v s).pActive = s.pActive := rfl
@[simp] theorem setR64_pDone (v : DWord) (s : State) : (setR64 v s).pDone = s.pDone := rfl
@[simp] theorem setR64_sticky (v : DWord) (s : State) : (setR64 v s).sticky = s.sticky := rfl
@[simp] theorem setR64_err (v : DWord) (s : State) : (setR64 v s).err = s.err := rfl
@[simp] theorem setR64_errParam (v : DWord) (s : State) : (setR64 v s).errParam = s.errParam := rfl
@[simp] theorem setR64_errValue (v : DWord) (s : State) : (setR64 v s).errValue = s.errValue := rfl
@[simp] theorem setR64_errMin (v : DWord) (s : State) : (setR64 v s).errMin = s.errMin := rfl
@[simp] theorem setR64_errMax (v : DWord) (s : State) : (setR64 v s).errMax = s.errMax := rfl
@[simp] theorem setR64_uN (v : DWord) (s : State) : (setR64 v s).uN = s.uN := rfl
@[simp] theorem setR64_uWc (v : DWord) (s : State) : (setR64 v s).uWc = s.uWc := rfl
@[simp] theorem setR64_uPos (v : DWord) (s : State) : (setR64 v s).uPos = s.uPos := rfl
@[simp] theorem setR64_uCount (v : DWord) (s : State) : (setR64 v s).uCount = s.uCount := rfl
@[simp] theorem setR64_uRemain (v : DWord) (s : State) : (setR64 v s).uRemain = s.uRemain := rfl
@[simp] theorem setR64_pN (v : DWord) (s : State) : (setR64 v s).pN = s.pN := rfl
@[simp] theorem setR64_pRemV (v : DWord) (s : State) : (setR64 v s).pRemV = s.pRemV := rfl
@[simp] theorem setR64_pRm (v : DWord) (s : State) : (setR64 v s).pRm = s.pRm := rfl
@[simp] theorem setR64_pRByte (v : DWord) (s : State) : (setR64 v s).pRByte = s.pRByte := rfl
@[simp] theorem setR64_pRLen (v : DWord) (s : State) : (setR64 v s).pRLen = s.pRLen := rfl
@[simp] theorem setR64_pCount (v : DWord) (s : State) : (setR64 v s).pCount = s.pCount := rfl
@[simp] theorem setR64_pBits (v : DWord) (s : State) : (setR64 v s).pBits = s.pBits := rfl
@[simp] theorem setR64_cfg (v : DWord) (s : State) : (setR64 v s).cfg = s.cfg := rfl
@[simp] theorem setR64_powerOns (v : DWord) (s : State) : (setR64 v s).powerOns = s.powerOns := rfl
@[simp] theorem setR64_inputs (v : DWord) (s : State) : (setR64 v s).inputs = s.inputs := rfl
@[simp] theorem setR64_responses (v : DWord) (s : State) : (setR64 v s).responses = s.responses := rfl

/-! ### completeOk -/

@[simp] theorem completeOk_src (s : State) : (completeOk s).src = s.src := rfl
@[simp] theorem completeOk_dst (s : State) : (completeOk s).dst = s.dst := rfl
@[simp] theorem completeOk_srcLen (s : State) : (completeOk s).srcLen = s.srcLen := rfl
@[simp] theorem completeOk_dstLen (s : State) : (completeOk s).dstLen = s.dstLen := rfl
@[simp] theorem completeOk_xLo (s : State) : (completeOk s).xLo = s.xLo := rfl
@[simp] theorem completeOk_xHi (s : State) : (completeOk s).xHi = s.xHi := rfl
@[simp] theorem completeOk_rLo (s : State) : (completeOk s).rLo = s.rLo := rfl
@[simp] theorem completeOk_rHi (s : State) : (completeOk s).rHi = s.rHi := rfl
@[simp] theorem completeOk_uActive (s : State) : (completeOk s).uActive = s.uActive := rfl
@[simp] theorem completeOk_uValid (s : State) : (completeOk s).uValid = s.uValid := rfl
@[simp] theorem completeOk_pActive (s : State) : (completeOk s).pActive = s.pActive := rfl
@[simp] theorem completeOk_pDone (s : State) : (completeOk s).pDone = s.pDone := rfl
@[simp] theorem completeOk_sticky (s : State) : (completeOk s).sticky = s.sticky := rfl
@[simp] theorem completeOk_err (s : State) : (completeOk s).err = 0 := rfl
@[simp] theorem completeOk_errParam (s : State) : (completeOk s).errParam = 0 := rfl
@[simp] theorem completeOk_errValue (s : State) : (completeOk s).errValue = 0 := rfl
@[simp] theorem completeOk_errMin (s : State) : (completeOk s).errMin = 0 := rfl
@[simp] theorem completeOk_errMax (s : State) : (completeOk s).errMax = 0 := rfl
@[simp] theorem completeOk_uN (s : State) : (completeOk s).uN = s.uN := rfl
@[simp] theorem completeOk_uWc (s : State) : (completeOk s).uWc = s.uWc := rfl
@[simp] theorem completeOk_uPos (s : State) : (completeOk s).uPos = s.uPos := rfl
@[simp] theorem completeOk_uCount (s : State) : (completeOk s).uCount = s.uCount := rfl
@[simp] theorem completeOk_uRemain (s : State) : (completeOk s).uRemain = s.uRemain := rfl
@[simp] theorem completeOk_pN (s : State) : (completeOk s).pN = s.pN := rfl
@[simp] theorem completeOk_pRemV (s : State) : (completeOk s).pRemV = s.pRemV := rfl
@[simp] theorem completeOk_pRm (s : State) : (completeOk s).pRm = s.pRm := rfl
@[simp] theorem completeOk_pRByte (s : State) : (completeOk s).pRByte = s.pRByte := rfl
@[simp] theorem completeOk_pRLen (s : State) : (completeOk s).pRLen = s.pRLen := rfl
@[simp] theorem completeOk_pCount (s : State) : (completeOk s).pCount = s.pCount := rfl
@[simp] theorem completeOk_pBits (s : State) : (completeOk s).pBits = s.pBits := rfl
@[simp] theorem completeOk_cfg (s : State) : (completeOk s).cfg = s.cfg := rfl
@[simp] theorem completeOk_powerOns (s : State) : (completeOk s).powerOns = s.powerOns := rfl
@[simp] theorem completeOk_inputs (s : State) : (completeOk s).inputs = s.inputs := rfl
@[simp] theorem completeOk_responses (s : State) : (completeOk s).responses = s.responses := rfl

/-! ### clearRegisters -/

@[simp] theorem clearRegisters_src (s : State) : (clearRegisters s).src = s.src := rfl
@[simp] theorem clearRegisters_dst (s : State) : (clearRegisters s).dst = s.dst := rfl
@[simp] theorem clearRegisters_srcLen (s : State) : (clearRegisters s).srcLen = 0 := rfl
@[simp] theorem clearRegisters_dstLen (s : State) : (clearRegisters s).dstLen = 0 := rfl
@[simp] theorem clearRegisters_xLo (s : State) : (clearRegisters s).xLo = 0 := rfl
@[simp] theorem clearRegisters_xHi (s : State) : (clearRegisters s).xHi = 0 := rfl
@[simp] theorem clearRegisters_rLo (s : State) : (clearRegisters s).rLo = 0 := rfl
@[simp] theorem clearRegisters_rHi (s : State) : (clearRegisters s).rHi = 0 := rfl
@[simp] theorem clearRegisters_uActive (s : State) : (clearRegisters s).uActive = false := rfl
@[simp] theorem clearRegisters_uValid (s : State) : (clearRegisters s).uValid = false := rfl
@[simp] theorem clearRegisters_pActive (s : State) : (clearRegisters s).pActive = false := rfl
@[simp] theorem clearRegisters_pDone (s : State) : (clearRegisters s).pDone = false := rfl
@[simp] theorem clearRegisters_sticky (s : State) : (clearRegisters s).sticky = false := rfl
@[simp] theorem clearRegisters_err (s : State) : (clearRegisters s).err = 0 := rfl
@[simp] theorem clearRegisters_errParam (s : State) : (clearRegisters s).errParam = 0 := rfl
@[simp] theorem clearRegisters_errValue (s : State) : (clearRegisters s).errValue = 0 := rfl
@[simp] theorem clearRegisters_errMin (s : State) : (clearRegisters s).errMin = 0 := rfl
@[simp] theorem clearRegisters_errMax (s : State) : (clearRegisters s).errMax = 0 := rfl
@[simp] theorem clearRegisters_uN (s : State) : (clearRegisters s).uN = 0 := rfl
@[simp] theorem clearRegisters_uWc (s : State) : (clearRegisters s).uWc = 0 := rfl
@[simp] theorem clearRegisters_uPos (s : State) : (clearRegisters s).uPos = 0 := rfl
@[simp] theorem clearRegisters_uCount (s : State) : (clearRegisters s).uCount = 0 := rfl
@[simp] theorem clearRegisters_uRemain (s : State) : (clearRegisters s).uRemain = 0 := rfl
@[simp] theorem clearRegisters_pN (s : State) : (clearRegisters s).pN = 0 := rfl
@[simp] theorem clearRegisters_pRemV (s : State) : (clearRegisters s).pRemV = 0 := rfl
@[simp] theorem clearRegisters_pRm (s : State) : (clearRegisters s).pRm = false := rfl
@[simp] theorem clearRegisters_pRByte (s : State) : (clearRegisters s).pRByte = 0 := rfl
@[simp] theorem clearRegisters_pRLen (s : State) : (clearRegisters s).pRLen = 0 := rfl
@[simp] theorem clearRegisters_pCount (s : State) : (clearRegisters s).pCount = 0 := rfl
@[simp] theorem clearRegisters_pBits (s : State) : (clearRegisters s).pBits = 0 := rfl
@[simp] theorem clearRegisters_cfg (s : State) : (clearRegisters s).cfg = s.cfg := rfl
@[simp] theorem clearRegisters_powerOns (s : State) : (clearRegisters s).powerOns = s.powerOns := rfl
@[simp] theorem clearRegisters_inputs (s : State) : (clearRegisters s).inputs = s.inputs := rfl
@[simp] theorem clearRegisters_responses (s : State) : (clearRegisters s).responses = s.responses := rfl

/-! ### hardReset -/

@[simp] theorem hardReset_src (s : State) : (hardReset s).src = [] := rfl
@[simp] theorem hardReset_dst (s : State) : (hardReset s).dst = [] := rfl
@[simp] theorem hardReset_srcLen (s : State) : (hardReset s).srcLen = 0 := rfl
@[simp] theorem hardReset_dstLen (s : State) : (hardReset s).dstLen = 0 := rfl
@[simp] theorem hardReset_xLo (s : State) : (hardReset s).xLo = 0 := rfl
@[simp] theorem hardReset_xHi (s : State) : (hardReset s).xHi = 0 := rfl
@[simp] theorem hardReset_rLo (s : State) : (hardReset s).rLo = 0 := rfl
@[simp] theorem hardReset_rHi (s : State) : (hardReset s).rHi = 0 := rfl
@[simp] theorem hardReset_uActive (s : State) : (hardReset s).uActive = false := rfl
@[simp] theorem hardReset_uValid (s : State) : (hardReset s).uValid = false := rfl
@[simp] theorem hardReset_pActive (s : State) : (hardReset s).pActive = false := rfl
@[simp] theorem hardReset_pDone (s : State) : (hardReset s).pDone = false := rfl
@[simp] theorem hardReset_sticky (s : State) : (hardReset s).sticky = false := rfl
@[simp] theorem hardReset_err (s : State) : (hardReset s).err = 0 := rfl
@[simp] theorem hardReset_errParam (s : State) : (hardReset s).errParam = 0 := rfl
@[simp] theorem hardReset_errValue (s : State) : (hardReset s).errValue = 0 := rfl
@[simp] theorem hardReset_errMin (s : State) : (hardReset s).errMin = 0 := rfl
@[simp] theorem hardReset_errMax (s : State) : (hardReset s).errMax = 0 := rfl
@[simp] theorem hardReset_uN (s : State) : (hardReset s).uN = 0 := rfl
@[simp] theorem hardReset_uWc (s : State) : (hardReset s).uWc = 0 := rfl
@[simp] theorem hardReset_uPos (s : State) : (hardReset s).uPos = 0 := rfl
@[simp] theorem hardReset_uCount (s : State) : (hardReset s).uCount = 0 := rfl
@[simp] theorem hardReset_uRemain (s : State) : (hardReset s).uRemain = 0 := rfl
@[simp] theorem hardReset_pN (s : State) : (hardReset s).pN = 0 := rfl
@[simp] theorem hardReset_pRemV (s : State) : (hardReset s).pRemV = 0 := rfl
@[simp] theorem hardReset_pRm (s : State) : (hardReset s).pRm = false := rfl
@[simp] theorem hardReset_pRByte (s : State) : (hardReset s).pRByte = 0 := rfl
@[simp] theorem hardReset_pRLen (s : State) : (hardReset s).pRLen = 0 := rfl
@[simp] theorem hardReset_pCount (s : State) : (hardReset s).pCount = 0 := rfl
@[simp] theorem hardReset_pBits (s : State) : (hardReset s).pBits = 0 := rfl
@[simp] theorem hardReset_cfg (s : State) : (hardReset s).cfg = s.cfg := rfl
@[simp] theorem hardReset_powerOns (s : State) : (hardReset s).powerOns = s.powerOns + 1 := rfl
@[simp] theorem hardReset_inputs (s : State) : (hardReset s).inputs = s.inputs := rfl
@[simp] theorem hardReset_responses (s : State) : (hardReset s).responses = s.responses := rfl

/-! ### respond -/

@[simp] theorem respond_src (r : Response) (s : State) : (respond r s).src = s.src := rfl
@[simp] theorem respond_dst (r : Response) (s : State) : (respond r s).dst = s.dst := rfl
@[simp] theorem respond_srcLen (r : Response) (s : State) : (respond r s).srcLen = s.srcLen := rfl
@[simp] theorem respond_dstLen (r : Response) (s : State) : (respond r s).dstLen = s.dstLen := rfl
@[simp] theorem respond_xLo (r : Response) (s : State) : (respond r s).xLo = s.xLo := rfl
@[simp] theorem respond_xHi (r : Response) (s : State) : (respond r s).xHi = s.xHi := rfl
@[simp] theorem respond_rLo (r : Response) (s : State) : (respond r s).rLo = s.rLo := rfl
@[simp] theorem respond_rHi (r : Response) (s : State) : (respond r s).rHi = s.rHi := rfl
@[simp] theorem respond_uActive (r : Response) (s : State) : (respond r s).uActive = s.uActive := rfl
@[simp] theorem respond_uValid (r : Response) (s : State) : (respond r s).uValid = s.uValid := rfl
@[simp] theorem respond_pActive (r : Response) (s : State) : (respond r s).pActive = s.pActive := rfl
@[simp] theorem respond_pDone (r : Response) (s : State) : (respond r s).pDone = s.pDone := rfl
@[simp] theorem respond_sticky (r : Response) (s : State) : (respond r s).sticky = s.sticky := rfl
@[simp] theorem respond_err (r : Response) (s : State) : (respond r s).err = s.err := rfl
@[simp] theorem respond_errParam (r : Response) (s : State) : (respond r s).errParam = s.errParam := rfl
@[simp] theorem respond_errValue (r : Response) (s : State) : (respond r s).errValue = s.errValue := rfl
@[simp] theorem respond_errMin (r : Response) (s : State) : (respond r s).errMin = s.errMin := rfl
@[simp] theorem respond_errMax (r : Response) (s : State) : (respond r s).errMax = s.errMax := rfl
@[simp] theorem respond_uN (r : Response) (s : State) : (respond r s).uN = s.uN := rfl
@[simp] theorem respond_uWc (r : Response) (s : State) : (respond r s).uWc = s.uWc := rfl
@[simp] theorem respond_uPos (r : Response) (s : State) : (respond r s).uPos = s.uPos := rfl
@[simp] theorem respond_uCount (r : Response) (s : State) : (respond r s).uCount = s.uCount := rfl
@[simp] theorem respond_uRemain (r : Response) (s : State) : (respond r s).uRemain = s.uRemain := rfl
@[simp] theorem respond_pN (r : Response) (s : State) : (respond r s).pN = s.pN := rfl
@[simp] theorem respond_pRemV (r : Response) (s : State) : (respond r s).pRemV = s.pRemV := rfl
@[simp] theorem respond_pRm (r : Response) (s : State) : (respond r s).pRm = s.pRm := rfl
@[simp] theorem respond_pRByte (r : Response) (s : State) : (respond r s).pRByte = s.pRByte := rfl
@[simp] theorem respond_pRLen (r : Response) (s : State) : (respond r s).pRLen = s.pRLen := rfl
@[simp] theorem respond_pCount (r : Response) (s : State) : (respond r s).pCount = s.pCount := rfl
@[simp] theorem respond_pBits (r : Response) (s : State) : (respond r s).pBits = s.pBits := rfl
@[simp] theorem respond_cfg (r : Response) (s : State) : (respond r s).cfg = s.cfg := rfl
@[simp] theorem respond_powerOns (r : Response) (s : State) : (respond r s).powerOns = s.powerOns := rfl
@[simp] theorem respond_inputs (r : Response) (s : State) : (respond r s).inputs = s.inputs := rfl
@[simp] theorem respond_responses (r : Response) (s : State) : (respond r s).responses = r :: s.responses := rfl

/-! ### taken -/

@[simp] theorem taken_src (rest : List Input) (s : State) : (taken rest s).src = s.src := rfl
@[simp] theorem taken_dst (rest : List Input) (s : State) : (taken rest s).dst = s.dst := rfl
@[simp] theorem taken_srcLen (rest : List Input) (s : State) : (taken rest s).srcLen = s.srcLen := rfl
@[simp] theorem taken_dstLen (rest : List Input) (s : State) : (taken rest s).dstLen = s.dstLen := rfl
@[simp] theorem taken_xLo (rest : List Input) (s : State) : (taken rest s).xLo = s.xLo := rfl
@[simp] theorem taken_xHi (rest : List Input) (s : State) : (taken rest s).xHi = s.xHi := rfl
@[simp] theorem taken_rLo (rest : List Input) (s : State) : (taken rest s).rLo = s.rLo := rfl
@[simp] theorem taken_rHi (rest : List Input) (s : State) : (taken rest s).rHi = s.rHi := rfl
@[simp] theorem taken_uActive (rest : List Input) (s : State) : (taken rest s).uActive = s.uActive := rfl
@[simp] theorem taken_uValid (rest : List Input) (s : State) : (taken rest s).uValid = s.uValid := rfl
@[simp] theorem taken_pActive (rest : List Input) (s : State) : (taken rest s).pActive = s.pActive := rfl
@[simp] theorem taken_pDone (rest : List Input) (s : State) : (taken rest s).pDone = s.pDone := rfl
@[simp] theorem taken_sticky (rest : List Input) (s : State) : (taken rest s).sticky = s.sticky := rfl
@[simp] theorem taken_err (rest : List Input) (s : State) : (taken rest s).err = s.err := rfl
@[simp] theorem taken_errParam (rest : List Input) (s : State) : (taken rest s).errParam = s.errParam := rfl
@[simp] theorem taken_errValue (rest : List Input) (s : State) : (taken rest s).errValue = s.errValue := rfl
@[simp] theorem taken_errMin (rest : List Input) (s : State) : (taken rest s).errMin = s.errMin := rfl
@[simp] theorem taken_errMax (rest : List Input) (s : State) : (taken rest s).errMax = s.errMax := rfl
@[simp] theorem taken_uN (rest : List Input) (s : State) : (taken rest s).uN = s.uN := rfl
@[simp] theorem taken_uWc (rest : List Input) (s : State) : (taken rest s).uWc = s.uWc := rfl
@[simp] theorem taken_uPos (rest : List Input) (s : State) : (taken rest s).uPos = s.uPos := rfl
@[simp] theorem taken_uCount (rest : List Input) (s : State) : (taken rest s).uCount = s.uCount := rfl
@[simp] theorem taken_uRemain (rest : List Input) (s : State) : (taken rest s).uRemain = s.uRemain := rfl
@[simp] theorem taken_pN (rest : List Input) (s : State) : (taken rest s).pN = s.pN := rfl
@[simp] theorem taken_pRemV (rest : List Input) (s : State) : (taken rest s).pRemV = s.pRemV := rfl
@[simp] theorem taken_pRm (rest : List Input) (s : State) : (taken rest s).pRm = s.pRm := rfl
@[simp] theorem taken_pRByte (rest : List Input) (s : State) : (taken rest s).pRByte = s.pRByte := rfl
@[simp] theorem taken_pRLen (rest : List Input) (s : State) : (taken rest s).pRLen = s.pRLen := rfl
@[simp] theorem taken_pCount (rest : List Input) (s : State) : (taken rest s).pCount = s.pCount := rfl
@[simp] theorem taken_pBits (rest : List Input) (s : State) : (taken rest s).pBits = s.pBits := rfl
@[simp] theorem taken_cfg (rest : List Input) (s : State) : (taken rest s).cfg = s.cfg := rfl
@[simp] theorem taken_powerOns (rest : List Input) (s : State) : (taken rest s).powerOns = s.powerOns := rfl
@[simp] theorem taken_inputs (rest : List Input) (s : State) : (taken rest s).inputs = rest := rfl
@[simp] theorem taken_responses (rest : List Input) (s : State) : (taken rest s).responses = s.responses := rfl

/-! ### reported -/

@[simp] theorem reported_src (s : State) (code : BitVec 4) (param : BitVec 8) (value least greatest : Word) :
    (reported s code param value least greatest).src = s.src := rfl
@[simp] theorem reported_dst (s : State) (code : BitVec 4) (param : BitVec 8) (value least greatest : Word) :
    (reported s code param value least greatest).dst = s.dst := rfl
@[simp] theorem reported_srcLen (s : State) (code : BitVec 4) (param : BitVec 8) (value least greatest : Word) :
    (reported s code param value least greatest).srcLen = s.srcLen := rfl
@[simp] theorem reported_dstLen (s : State) (code : BitVec 4) (param : BitVec 8) (value least greatest : Word) :
    (reported s code param value least greatest).dstLen = s.dstLen := rfl
@[simp] theorem reported_xLo (s : State) (code : BitVec 4) (param : BitVec 8) (value least greatest : Word) :
    (reported s code param value least greatest).xLo = s.xLo := rfl
@[simp] theorem reported_xHi (s : State) (code : BitVec 4) (param : BitVec 8) (value least greatest : Word) :
    (reported s code param value least greatest).xHi = s.xHi := rfl
@[simp] theorem reported_rLo (s : State) (code : BitVec 4) (param : BitVec 8) (value least greatest : Word) :
    (reported s code param value least greatest).rLo = s.rLo := rfl
@[simp] theorem reported_rHi (s : State) (code : BitVec 4) (param : BitVec 8) (value least greatest : Word) :
    (reported s code param value least greatest).rHi = s.rHi := rfl
@[simp] theorem reported_uActive (s : State) (code : BitVec 4) (param : BitVec 8) (value least greatest : Word) :
    (reported s code param value least greatest).uActive = s.uActive := rfl
@[simp] theorem reported_uValid (s : State) (code : BitVec 4) (param : BitVec 8) (value least greatest : Word) :
    (reported s code param value least greatest).uValid = s.uValid := rfl
@[simp] theorem reported_pActive (s : State) (code : BitVec 4) (param : BitVec 8) (value least greatest : Word) :
    (reported s code param value least greatest).pActive = s.pActive := rfl
@[simp] theorem reported_pDone (s : State) (code : BitVec 4) (param : BitVec 8) (value least greatest : Word) :
    (reported s code param value least greatest).pDone = s.pDone := rfl
@[simp] theorem reported_sticky (s : State) (code : BitVec 4) (param : BitVec 8) (value least greatest : Word) :
    (reported s code param value least greatest).sticky = true := rfl
@[simp] theorem reported_err (s : State) (code : BitVec 4) (param : BitVec 8) (value least greatest : Word) :
    (reported s code param value least greatest).err = code := rfl
@[simp] theorem reported_errParam (s : State) (code : BitVec 4) (param : BitVec 8) (value least greatest : Word) :
    (reported s code param value least greatest).errParam = param := rfl
@[simp] theorem reported_errValue (s : State) (code : BitVec 4) (param : BitVec 8) (value least greatest : Word) :
    (reported s code param value least greatest).errValue = value := rfl
@[simp] theorem reported_errMin (s : State) (code : BitVec 4) (param : BitVec 8) (value least greatest : Word) :
    (reported s code param value least greatest).errMin = least := rfl
@[simp] theorem reported_errMax (s : State) (code : BitVec 4) (param : BitVec 8) (value least greatest : Word) :
    (reported s code param value least greatest).errMax = greatest := rfl
@[simp] theorem reported_uN (s : State) (code : BitVec 4) (param : BitVec 8) (value least greatest : Word) :
    (reported s code param value least greatest).uN = s.uN := rfl
@[simp] theorem reported_uWc (s : State) (code : BitVec 4) (param : BitVec 8) (value least greatest : Word) :
    (reported s code param value least greatest).uWc = s.uWc := rfl
@[simp] theorem reported_uPos (s : State) (code : BitVec 4) (param : BitVec 8) (value least greatest : Word) :
    (reported s code param value least greatest).uPos = s.uPos := rfl
@[simp] theorem reported_uCount (s : State) (code : BitVec 4) (param : BitVec 8) (value least greatest : Word) :
    (reported s code param value least greatest).uCount = s.uCount := rfl
@[simp] theorem reported_uRemain (s : State) (code : BitVec 4) (param : BitVec 8) (value least greatest : Word) :
    (reported s code param value least greatest).uRemain = s.uRemain := rfl
@[simp] theorem reported_pN (s : State) (code : BitVec 4) (param : BitVec 8) (value least greatest : Word) :
    (reported s code param value least greatest).pN = s.pN := rfl
@[simp] theorem reported_pRemV (s : State) (code : BitVec 4) (param : BitVec 8) (value least greatest : Word) :
    (reported s code param value least greatest).pRemV = s.pRemV := rfl
@[simp] theorem reported_pRm (s : State) (code : BitVec 4) (param : BitVec 8) (value least greatest : Word) :
    (reported s code param value least greatest).pRm = s.pRm := rfl
@[simp] theorem reported_pRByte (s : State) (code : BitVec 4) (param : BitVec 8) (value least greatest : Word) :
    (reported s code param value least greatest).pRByte = s.pRByte := rfl
@[simp] theorem reported_pRLen (s : State) (code : BitVec 4) (param : BitVec 8) (value least greatest : Word) :
    (reported s code param value least greatest).pRLen = s.pRLen := rfl
@[simp] theorem reported_pCount (s : State) (code : BitVec 4) (param : BitVec 8) (value least greatest : Word) :
    (reported s code param value least greatest).pCount = s.pCount := rfl
@[simp] theorem reported_pBits (s : State) (code : BitVec 4) (param : BitVec 8) (value least greatest : Word) :
    (reported s code param value least greatest).pBits = s.pBits := rfl
@[simp] theorem reported_cfg (s : State) (code : BitVec 4) (param : BitVec 8) (value least greatest : Word) :
    (reported s code param value least greatest).cfg = s.cfg := rfl
@[simp] theorem reported_powerOns (s : State) (code : BitVec 4) (param : BitVec 8) (value least greatest : Word) :
    (reported s code param value least greatest).powerOns = s.powerOns := rfl
@[simp] theorem reported_inputs (s : State) (code : BitVec 4) (param : BitVec 8) (value least greatest : Word) :
    (reported s code param value least greatest).inputs = s.inputs := rfl
@[simp] theorem reported_responses (s : State) (code : BitVec 4) (param : BitVec 8) (value least greatest : Word) :
    (reported s code param value least greatest).responses = s.responses := rfl

/-! ### succeeded -/

@[simp] theorem succeeded_src (s : State) : (succeeded s).src = s.src := rfl
@[simp] theorem succeeded_dst (s : State) : (succeeded s).dst = s.dst := rfl
@[simp] theorem succeeded_srcLen (s : State) : (succeeded s).srcLen = s.srcLen := rfl
@[simp] theorem succeeded_dstLen (s : State) : (succeeded s).dstLen = s.dstLen := rfl
@[simp] theorem succeeded_xLo (s : State) : (succeeded s).xLo = s.xLo := rfl
@[simp] theorem succeeded_xHi (s : State) : (succeeded s).xHi = s.xHi := rfl
@[simp] theorem succeeded_rLo (s : State) : (succeeded s).rLo = s.rLo := rfl
@[simp] theorem succeeded_rHi (s : State) : (succeeded s).rHi = s.rHi := rfl
@[simp] theorem succeeded_uActive (s : State) : (succeeded s).uActive = s.uActive := rfl
@[simp] theorem succeeded_uValid (s : State) : (succeeded s).uValid = s.uValid := rfl
@[simp] theorem succeeded_pActive (s : State) : (succeeded s).pActive = s.pActive := rfl
@[simp] theorem succeeded_pDone (s : State) : (succeeded s).pDone = s.pDone := rfl
@[simp] theorem succeeded_sticky (s : State) : (succeeded s).sticky = s.sticky := rfl
@[simp] theorem succeeded_err (s : State) : (succeeded s).err = 0 := rfl
@[simp] theorem succeeded_errParam (s : State) : (succeeded s).errParam = 0 := rfl
@[simp] theorem succeeded_errValue (s : State) : (succeeded s).errValue = 0 := rfl
@[simp] theorem succeeded_errMin (s : State) : (succeeded s).errMin = 0 := rfl
@[simp] theorem succeeded_errMax (s : State) : (succeeded s).errMax = 0 := rfl
@[simp] theorem succeeded_uN (s : State) : (succeeded s).uN = s.uN := rfl
@[simp] theorem succeeded_uWc (s : State) : (succeeded s).uWc = s.uWc := rfl
@[simp] theorem succeeded_uPos (s : State) : (succeeded s).uPos = s.uPos := rfl
@[simp] theorem succeeded_uCount (s : State) : (succeeded s).uCount = s.uCount := rfl
@[simp] theorem succeeded_uRemain (s : State) : (succeeded s).uRemain = s.uRemain := rfl
@[simp] theorem succeeded_pN (s : State) : (succeeded s).pN = s.pN := rfl
@[simp] theorem succeeded_pRemV (s : State) : (succeeded s).pRemV = s.pRemV := rfl
@[simp] theorem succeeded_pRm (s : State) : (succeeded s).pRm = s.pRm := rfl
@[simp] theorem succeeded_pRByte (s : State) : (succeeded s).pRByte = s.pRByte := rfl
@[simp] theorem succeeded_pRLen (s : State) : (succeeded s).pRLen = s.pRLen := rfl
@[simp] theorem succeeded_pCount (s : State) : (succeeded s).pCount = s.pCount := rfl
@[simp] theorem succeeded_pBits (s : State) : (succeeded s).pBits = s.pBits := rfl
@[simp] theorem succeeded_cfg (s : State) : (succeeded s).cfg = s.cfg := rfl
@[simp] theorem succeeded_powerOns (s : State) : (succeeded s).powerOns = s.powerOns := rfl
@[simp] theorem succeeded_inputs (s : State) : (succeeded s).inputs = s.inputs := rfl
@[simp] theorem succeeded_responses (s : State) : (succeeded s).responses = s.responses := rfl

/-! ### answered -/

@[simp] theorem answered_src (s : State) (rest : List Input) (r : Response) :
    (answered s rest r).src = s.src := rfl
@[simp] theorem answered_dst (s : State) (rest : List Input) (r : Response) :
    (answered s rest r).dst = s.dst := rfl
@[simp] theorem answered_srcLen (s : State) (rest : List Input) (r : Response) :
    (answered s rest r).srcLen = s.srcLen := rfl
@[simp] theorem answered_dstLen (s : State) (rest : List Input) (r : Response) :
    (answered s rest r).dstLen = s.dstLen := rfl
@[simp] theorem answered_xLo (s : State) (rest : List Input) (r : Response) :
    (answered s rest r).xLo = s.xLo := rfl
@[simp] theorem answered_xHi (s : State) (rest : List Input) (r : Response) :
    (answered s rest r).xHi = s.xHi := rfl
@[simp] theorem answered_rLo (s : State) (rest : List Input) (r : Response) :
    (answered s rest r).rLo = s.rLo := rfl
@[simp] theorem answered_rHi (s : State) (rest : List Input) (r : Response) :
    (answered s rest r).rHi = s.rHi := rfl
@[simp] theorem answered_uActive (s : State) (rest : List Input) (r : Response) :
    (answered s rest r).uActive = s.uActive := rfl
@[simp] theorem answered_uValid (s : State) (rest : List Input) (r : Response) :
    (answered s rest r).uValid = s.uValid := rfl
@[simp] theorem answered_pActive (s : State) (rest : List Input) (r : Response) :
    (answered s rest r).pActive = s.pActive := rfl
@[simp] theorem answered_pDone (s : State) (rest : List Input) (r : Response) :
    (answered s rest r).pDone = s.pDone := rfl
@[simp] theorem answered_sticky (s : State) (rest : List Input) (r : Response) :
    (answered s rest r).sticky = s.sticky := rfl
@[simp] theorem answered_err (s : State) (rest : List Input) (r : Response) :
    (answered s rest r).err = s.err := rfl
@[simp] theorem answered_errParam (s : State) (rest : List Input) (r : Response) :
    (answered s rest r).errParam = s.errParam := rfl
@[simp] theorem answered_errValue (s : State) (rest : List Input) (r : Response) :
    (answered s rest r).errValue = s.errValue := rfl
@[simp] theorem answered_errMin (s : State) (rest : List Input) (r : Response) :
    (answered s rest r).errMin = s.errMin := rfl
@[simp] theorem answered_errMax (s : State) (rest : List Input) (r : Response) :
    (answered s rest r).errMax = s.errMax := rfl
@[simp] theorem answered_uN (s : State) (rest : List Input) (r : Response) :
    (answered s rest r).uN = s.uN := rfl
@[simp] theorem answered_uWc (s : State) (rest : List Input) (r : Response) :
    (answered s rest r).uWc = s.uWc := rfl
@[simp] theorem answered_uPos (s : State) (rest : List Input) (r : Response) :
    (answered s rest r).uPos = s.uPos := rfl
@[simp] theorem answered_uCount (s : State) (rest : List Input) (r : Response) :
    (answered s rest r).uCount = s.uCount := rfl
@[simp] theorem answered_uRemain (s : State) (rest : List Input) (r : Response) :
    (answered s rest r).uRemain = s.uRemain := rfl
@[simp] theorem answered_pN (s : State) (rest : List Input) (r : Response) :
    (answered s rest r).pN = s.pN := rfl
@[simp] theorem answered_pRemV (s : State) (rest : List Input) (r : Response) :
    (answered s rest r).pRemV = s.pRemV := rfl
@[simp] theorem answered_pRm (s : State) (rest : List Input) (r : Response) :
    (answered s rest r).pRm = s.pRm := rfl
@[simp] theorem answered_pRByte (s : State) (rest : List Input) (r : Response) :
    (answered s rest r).pRByte = s.pRByte := rfl
@[simp] theorem answered_pRLen (s : State) (rest : List Input) (r : Response) :
    (answered s rest r).pRLen = s.pRLen := rfl
@[simp] theorem answered_pCount (s : State) (rest : List Input) (r : Response) :
    (answered s rest r).pCount = s.pCount := rfl
@[simp] theorem answered_pBits (s : State) (rest : List Input) (r : Response) :
    (answered s rest r).pBits = s.pBits := rfl
@[simp] theorem answered_cfg (s : State) (rest : List Input) (r : Response) :
    (answered s rest r).cfg = s.cfg := rfl
@[simp] theorem answered_powerOns (s : State) (rest : List Input) (r : Response) :
    (answered s rest r).powerOns = s.powerOns := rfl
@[simp] theorem answered_inputs (s : State) (rest : List Input) (r : Response) :
    (answered s rest r).inputs = rest := rfl
@[simp] theorem answered_responses (s : State) (rest : List Input) (r : Response) :
    (answered s rest r).responses = r :: s.responses := rfl

end Sys2Proof.Machine
end

