-- ==== Sys2Proof/Laws/Memory.lean ====
section
/-! SUPPORT. The laws of the byte memories: a read after a write, every other offset left alone, and the canonical
form and the capacity bound kept by every operation. -/

namespace Sys2Proof.Machine

@[simp] theorem find_nil (i : Nat) : Memory.find [] i = none := rfl

theorem find_cons (a : Nat) (b : Byte) (m : Memory) (i : Nat) :
    Memory.find ((a, b) :: m) i = if a = i then some b else Memory.find m i := rfl

theorem find_write_same (m : Memory) (i : Nat) (b : Byte) : Memory.find (Memory.write m i b) i = some b := by
  induction m with
  | nil => simp [Memory.write, find_cons]
  | cons c m ih =>
    obtain ⟨a, x⟩ := c
    unfold Memory.write
    split
    · simp [find_cons]
    · split
      · simp [find_cons]
      · rename_i _ h
        simp [find_cons, Ne.symm h, ih]

theorem find_write_other (m : Memory) {i j : Nat} (b : Byte) (h : j ≠ i) :
    Memory.find (Memory.write m i b) j = Memory.find m j := by
  induction m with
  | nil => simp [Memory.write, find_cons, Ne.symm h]
  | cons c m ih =>
    obtain ⟨a, x⟩ := c
    unfold Memory.write
    split
    · simp [find_cons, Ne.symm h]
    · split
      · rename_i _ hi
        subst hi
        simp [find_cons, Ne.symm h]
      · simp [find_cons, ih]

/-- What one write does to every offset. -/
theorem find_write (m : Memory) (i j : Nat) (b : Byte) :
    Memory.find (Memory.write m i b) j = if j = i then some b else Memory.find m j := by
  by_cases h : j = i
  · subst h
    simp [find_write_same]
  · simp [h, find_write_other m b h]

theorem mem_write {m : Memory} {i : Nat} {b : Byte} {c : Host.Cell} (h : c ∈ Memory.write m i b) :
    c = (i, b) ∨ c ∈ m := by
  induction m with
  | nil => simpa [Memory.write] using h
  | cons d m ih =>
    obtain ⟨a, x⟩ := d
    unfold Memory.write at h
    split at h
    · simpa using h
    · split at h
      · rcases List.mem_cons.mp h with h | h
        · exact .inl h
        · exact .inr (List.mem_cons_of_mem _ h)
      · rcases List.mem_cons.mp h with h | h
        · exact .inr (h ▸ List.mem_cons_self)
        · exact (ih h).imp id (List.mem_cons_of_mem _)

theorem write_wf {m : Memory} (h : Memory.wf m) (i : Nat) (b : Byte) : Memory.wf (Memory.write m i b) := by
  induction m with
  | nil => simp [Memory.write, Memory.wf]
  | cons c m ih =>
    obtain ⟨a, x⟩ := c
    obtain ⟨hlt, hm⟩ := List.pairwise_cons.mp h
    unfold Memory.write
    split
    · rename_i hi
      refine List.pairwise_cons.mpr ⟨fun d hd => ?_, h⟩
      rcases List.mem_cons.mp hd with rfl | hd
      · exact hi
      · exact Nat.lt_trans hi (hlt d hd)
    · split
      · rename_i _ hi
        subst hi
        exact List.pairwise_cons.mpr ⟨fun d hd => hlt d hd, hm⟩
      · rename_i h1 h2
        refine List.pairwise_cons.mpr ⟨fun d hd => ?_, ih hm⟩
        rcases mem_write hd with rfl | hd
        · change a < i
          omega
        · exact hlt d hd

theorem write_bound {m : Memory} {n i : Nat} (h : ∀ c ∈ m, c.1 < n) (b : Byte) (hi : i < n) :
    ∀ c ∈ Memory.write m i b, c.1 < n := by
  intro c hc
  rcases mem_write hc with rfl | hc
  · exact hi
  · exact h c hc

/-- What consecutive writes do to every offset. -/
theorem find_writeAll (m : Memory) (i : Nat) (bs : List Byte) (j : Nat) :
    Memory.find (Memory.writeAll m i bs) j =
      if i ≤ j ∧ j < i + bs.length then bs[j - i]? else Memory.find m j := by
  induction bs generalizing m i with
  | nil =>
    rw [if_neg (by simp only [List.length_nil]; omega), Memory.writeAll]
  | cons b bs ih =>
    rw [Memory.writeAll, ih, find_write]
    rcases Nat.lt_trichotomy j i with h | h | h
    · have h1 : ¬ (i + 1 ≤ j ∧ j < i + 1 + bs.length) := by omega
      have h2 : ¬ (i ≤ j ∧ j < i + (b :: bs).length) := by omega
      simp only [h1, h2, if_false]
      rw [if_neg (by omega)]
    · subst h
      simp
    · obtain ⟨d, rfl⟩ : ∃ d, j = i + 1 + d := ⟨j - (i + 1), by omega⟩
      have e1 : i + 1 + d - i = d + 1 := by omega
      have e2 : i + 1 + d - (i + 1) = d := by omega
      have e3 : i + 1 + d ≠ i := by omega
      rw [e1, e2, if_neg e3, List.getElem?_cons_succ]
      by_cases hd : d < bs.length
      · rw [if_pos (by omega), if_pos (by simp; omega)]
      · rw [if_neg (by omega), if_neg (by simp; omega)]

theorem writeAll_wf {m : Memory} (h : Memory.wf m) (i : Nat) (bs : List Byte) : Memory.wf (Memory.writeAll m i bs) := by
  induction bs generalizing m i with
  | nil => exact h
  | cons b bs ih => exact ih (write_wf h i b) (i + 1)

theorem writeAll_bound {m : Memory} {n i : Nat} (h : ∀ c ∈ m, c.1 < n) (bs : List Byte) (hi : i + bs.length ≤ n) :
    ∀ c ∈ Memory.writeAll m i bs, c.1 < n := by
  induction bs generalizing m i with
  | nil => exact h
  | cons b bs ih =>
    have hi' : i + (bs.length + 1) ≤ n := hi
    exact ih (write_bound h b (by omega)) (by omega)

/-- A byte of SRC after a host write to it. -/
theorem srcByte_write (s : State) (i j : Nat) (b : Byte) :
    srcByte { s with src := Memory.write s.src i b } j = if j = i then b else srcByte s j := by
  unfold srcByte
  rw [find_write]
  split <;> rfl

/-- A byte of DST after one write to it. -/
theorem dstByte_write (s : State) (i j : Nat) (b : Byte) :
    dstByte { s with dst := Memory.write s.dst i b } j = if j = i then b else dstByte s j := by
  unfold dstByte
  rw [find_write]
  split <;> rfl

/-- A byte read depends on the memory and the number of hard resets alone. -/
theorem srcByte_congr {s t : State} (h : t.src = s.src) (hp : t.powerOns = s.powerOns) : srcByte t = srcByte s := by
  funext i
  simp [srcByte, h, hp]

theorem dstByte_congr {s t : State} (h : t.dst = s.dst) (hp : t.powerOns = s.powerOns) : dstByte t = dstByte s := by
  funext i
  simp [dstByte, h, hp]

end Sys2Proof.Machine
end

