-- ==== Sys2Proof/Laws/Ops.lean ====
section
/-! SUPPORT. What the shared operations of a command's end and of the port can do, once each; the commands' and the
step's proofs cite these. -/

namespace Sys2Proof.Machine

/-! ### The end of a command -/

/-- R287 in one equation: the model's `raiseError` is `reported` with the code and information of the error. -/
theorem raiseError_eq (e : CommandError) (s : State) :
    raiseError e s =
      match e with
      | .config param value least greatest => reported s 1 param value least greatest
      | .illegal => reported s 2 0 0 0 0
      | .state => reported s 3 0 0 0 0
      | .range => reported s 4 0 0 0 0
      | .capacity => reported s 5 0 0 0 0 := by
  cases e <;> rfl

theorem completeOk_eq (s : State) : completeOk s = succeeded s := rfl

/-- Everything `finish` can do: report the error on the state before the command, or success on the command's
writes. -/
theorem finish_cases {s t : State} {r : Except CommandError State} (h : finish s r = .next t) :
    (∃ e, r = .error e ∧ t = raiseError e s) ∨ (∃ u, r = .ok u ∧ t = succeeded u) := by
  cases r with
  | error e => exact .inl ⟨e, rfl, by simpa [finish] using h.symm⟩
  | ok u => exact .inr ⟨u, rfl, by simpa [finish, completeOk_eq] using h.symm⟩

theorem finish_error (s : State) (e : CommandError) : finish s (.error e) = .next (raiseError e s) := rfl

theorem finish_ok (s u : State) : finish s (.ok u) = .next (succeeded u) := rfl

/-- Every command answers a next state. -/
theorem exec_next (i : Instr) (s : State) : ∃ t, exec i s = .next t := by
  have key : ∀ r : Except CommandError State, ∃ t, finish s r = .next t := by
    intro r
    cases r with
    | error e => exact ⟨_, rfl⟩
    | ok u => exact ⟨_, rfl⟩
  cases i <;> simp only [exec, execNop, execSoftReset, execWindow, execSliceExtract, execSliceMerge, execUnpackBegin,
    execUnpackNext, execUnpackEnd, execPackBegin, execPackPush, execPackEnd] <;> exact key _

/-! ### The port -/

@[simp] theorem answerWith_next (r : Response) (t : State) : answerWith r (.next t) = .next (respond r t) := rfl

/-- `execCommand` is ILLEGAL or the decoded command. -/
theorem execCommand_cases (w : Word) (s : State) :
    (∃ why, decode w = .error why ∧ execCommand w s = .next (reported s 2 0 0 0 0)) ∨
    (∃ i, decode w = .ok i ∧ execCommand w s = exec i s) := by
  unfold execCommand
  cases h : decode w with
  | error why => exact .inl ⟨why, rfl, rfl⟩
  | ok i => exact .inr ⟨i, rfl, rfl⟩

theorem execCommand_next (w : Word) (s : State) : ∃ t, execCommand w s = .next t := by
  rcases execCommand_cases w s with ⟨_, _, h⟩ | ⟨i, _, h⟩
  · exact ⟨_, h⟩
  · rw [h]
    exact exec_next i s

/-- Everything a register write can do. -/
theorem writeRegister_cases {r : Reg} {d : Word} {s t : State} (h : writeRegister r d s = .next t) :
    (r = .CMD ∧ ∃ u, execCommand d s = .next u ∧ t = respond .okWrite u) ∨
    (r = .STATUS ∧ t = respond .okWrite (writeStatus d s)) ∨
    (r = .X_LO ∧ t = respond .okWrite { s with xLo := d }) ∨
    (r = .X_HI ∧ t = respond .okWrite { s with xHi := d }) ∨
    (r = .SRC_LEN ∧ s.uActive = false ∧ d.toNat ≤ s.cfg.srcBytes ∧
      t = respond .okWrite { s with srcLen := d.setWidth 25 }) ∨
    t = respond .busErr s := by
  cases r
  case CMD =>
    obtain ⟨u, hu⟩ := execCommand_next d s
    refine .inl ⟨rfl, u, hu, ?_⟩
    simpa [writeRegister, hu] using h.symm
  case STATUS => exact .inr (.inl ⟨rfl, by simpa [writeRegister, accept] using h.symm⟩)
  case X_LO => exact .inr (.inr (.inl ⟨rfl, by simpa [writeRegister, accept] using h.symm⟩))
  case X_HI => exact .inr (.inr (.inr (.inl ⟨rfl, by simpa [writeRegister, accept] using h.symm⟩)))
  case SRC_LEN =>
    simp only [writeRegister, writeSrcLen] at h
    split at h
    · exact .inr (.inr (.inr (.inr (.inr (by simpa [refuse] using h.symm)))))
    · rename_i hu
      split at h
      · exact .inr (.inr (.inr (.inr (.inr (by simpa [refuse] using h.symm)))))
      · rename_i hd
        exact .inr (.inr (.inr (.inr (.inl
          ⟨rfl, by simpa using hu, Nat.le_of_not_lt hd, by simpa [accept] using h.symm⟩))))
  all_goals exact .inr (.inr (.inr (.inr (.inr (by simpa [writeRegister, refuse] using h.symm)))))

/-- A mapped SRC target lies below the capacity. -/
theorem targetOf_src {c : Config} {addr : Word} {i : Nat} (h : targetOf c addr = some (.src i)) : i < c.srcBytes := by
  unfold targetOf at h
  dsimp only at h
  rcases ite_eq_iff.mp h with ⟨_, h⟩ | ⟨_, h⟩
  · obtain ⟨_, _, h⟩ := Option.map_eq_some_iff.mp h
    cases h
  rcases ite_eq_iff.mp h with ⟨_, h⟩ | ⟨_, h⟩
  · rcases ite_eq_iff.mp h with ⟨hlt, h⟩ | ⟨_, h⟩
    · rw [Option.some.injEq, Target.src.injEq] at h
      exact h ▸ hlt
    · cases h
  rcases ite_eq_iff.mp h with ⟨_, h⟩ | ⟨_, h⟩
  · rcases ite_eq_iff.mp h with ⟨_, h⟩ | ⟨_, h⟩ <;> cases h
  · cases h

/-- Everything a host write can do: run a command, or write one register or one byte of SRC, or be refused. -/
theorem hostWrite_cases {addr : Word} {data : BusData} {s t : State} (h : hostWrite addr data s = .next t) :
    (∃ d u, data = .word d ∧ targetOf s.cfg addr = some (.register .CMD) ∧ execCommand d s = .next u ∧
      t = respond .okWrite u) ∨
    (∃ d, t = respond .okWrite (writeStatus d s)) ∨
    (∃ d, t = respond .okWrite { s with xLo := d }) ∨
    (∃ d, t = respond .okWrite { s with xHi := d }) ∨
    (∃ d : Word, s.uActive = false ∧ d.toNat ≤ s.cfg.srcBytes ∧
      t = respond .okWrite { s with srcLen := d.setWidth 25 }) ∨
    (∃ i b, s.uActive = false ∧ i < s.cfg.srcBytes ∧
      t = respond .okWrite { s with src := Memory.write s.src i b }) ∨
    t = respond .busErr s := by
  unfold hostWrite at h
  split at h
  · rename_i r d htarget
    rcases writeRegister_cases h with ⟨rfl, u, hu, ht⟩ | ⟨_, ht⟩ | ⟨_, ht⟩ | ⟨_, ht⟩ | ⟨_, h1, h2, ht⟩ | ht
    · exact .inl ⟨d, u, rfl, htarget, hu, ht⟩
    · exact .inr (.inl ⟨d, ht⟩)
    · exact .inr (.inr (.inl ⟨d, ht⟩))
    · exact .inr (.inr (.inr (.inl ⟨d, ht⟩)))
    · exact .inr (.inr (.inr (.inr (.inl ⟨d, h1, h2, ht⟩))))
    · exact .inr (.inr (.inr (.inr (.inr (.inr ht)))))
  · rename_i i b htarget
    unfold writeSrc at h
    split at h
    · exact .inr (.inr (.inr (.inr (.inr (.inr (by simpa [refuse] using h.symm))))))
    · rename_i hu
      exact .inr (.inr (.inr (.inr (.inr (.inl
        ⟨i, b, by simpa using hu, targetOf_src htarget, by simpa [accept] using h.symm⟩)))))
  · exact .inr (.inr (.inr (.inr (.inr (.inr (by simpa [refuse] using h.symm))))))

/-- Everything a step can do: stay idle, be reset, answer a read, or perform a write. -/
theorem step_cases {s t : State} (h : step s = .next t) :
    (s.inputs = [] ∧ t = s) ∨
    (∃ rest, s.inputs = .hardReset :: rest ∧ t = hardReset (taken rest s)) ∨
    (∃ rest addr width, s.inputs = .transaction (.hostRead addr width) :: rest ∧
      t = answered s rest (hostRead addr width s)) ∨
    (∃ rest addr data, s.inputs = .transaction (.hostWrite addr data) :: rest ∧
      hostWrite addr data (taken rest s) = .next t) := by
  unfold step at h
  split at h
  · rename_i hi
    exact .inl ⟨hi, by simpa using h.symm⟩
  · rename_i i rest hi
    cases i with
    | hardReset => exact .inr (.inl ⟨rest, hi, by simpa [takeInput] using h.symm⟩)
    | transaction tr =>
      cases tr with
      | hostRead addr width =>
        refine .inr (.inr (.inl ⟨rest, addr, width, hi, ?_⟩))
        simp only [takeInput, transact, Host.Outcome.next.injEq] at h
        rw [← h]
        rfl
      | hostWrite addr data => exact .inr (.inr (.inr ⟨rest, addr, data, hi, by simpa [takeInput, transact] using h⟩))

end Sys2Proof.Machine
end

