-- ==== Sys2Proof/Laws/PerInstr.lean ====
section
/-! SUPPORT. Statements made once per instruction, about its syntax and encoding alone. The family `MatchesTable`: the
encoder's word meets the `match` and `mask` of the instruction's row of spec/opcode_table.json. -/

namespace Sys2Proof.Laws.MatchesTable

/-- The word `w` meets the `match` and `mask` of a row. -/
def Meets (w matchBits mask : Word) : Prop := w &&& mask = matchBits

/-- The encoder sets the opcode of the row and leaves every reserved bit 0 (R101, R110). -/
def Statement (i : Instr) : Prop :=
  match i with
  | .nop => Meets (encode i) 0x00000000#32 0xFFFFFFFF#32
  | .softReset => Meets (encode i) 0x01000000#32 0xFFFFFFFF#32
  | .window _ => Meets (encode i) 0x10000000#32 0xFF000000#32
  | .sliceExtract _ _ => Meets (encode i) 0x18000000#32 0xFFFFF8C0#32
  | .sliceMerge _ _ _ => Meets (encode i) 0x19000000#32 0xFF00F8C0#32
  | .unpackBegin _ _ => Meets (encode i) 0x20000000#32 0xFFFFFCC0#32
  | .unpackNext => Meets (encode i) 0x21000000#32 0xFFFFFFFF#32
  | .unpackEnd => Meets (encode i) 0x22000000#32 0xFFFFFFFF#32
  | .packBegin _ _ _ => Meets (encode i) 0x30000000#32 0xFFFEC0C0#32
  | .packPush => Meets (encode i) 0x31000000#32 0xFFFFFFFF#32
  | .packEnd => Meets (encode i) 0x32000000#32 0xFFFFFFFF#32

/-- A bitwise AND of two concatenations is taken part by part. -/
theorem append_and {a b : Nat} (x x' : BitVec a) (y y' : BitVec b) :
    (x ++ y) &&& (x' ++ y') = (x &&& x') ++ (y &&& y') := by
  apply BitVec.eq_of_getLsbD_eq
  intro i _
  simp only [BitVec.getLsbD_and, BitVec.getLsbD_append]
  split <;> rfl

theorem nop : Statement .nop := by
  unfold Statement Meets
  decide

theorem softReset : Statement .softReset := by
  unfold Statement Meets
  decide

theorem window (off : BitVec 24) : Statement (.window off) := by
  show (0x10#8 ++ off) &&& (0xFF#8 ++ 0#24) = 0x10#8 ++ 0#24
  rw [append_and, BitVec.and_zero]
  rfl

theorem sliceExtract (n : BitVec 6) (off3 : BitVec 3) : Statement (.sliceExtract n off3) := by
  show (0x18#8 ++ 0#13 ++ off3 ++ 0#2 ++ n) &&& (0xFF#8 ++ 0x1FFF#13 ++ 0#3 ++ 3#2 ++ 0#6) =
    0x18#8 ++ 0#13 ++ 0#3 ++ 0#2 ++ 0#6
  simp only [append_and, BitVec.and_zero]
  rfl

theorem sliceMerge (n : BitVec 6) (rl : BitVec 3) (rb : BitVec 8) : Statement (.sliceMerge n rl rb) := by
  show (0x19#8 ++ rb ++ 0#5 ++ rl ++ 0#2 ++ n) &&& (0xFF#8 ++ 0#8 ++ 0x1F#5 ++ 0#3 ++ 3#2 ++ 0#6) =
    0x19#8 ++ 0#8 ++ 0#5 ++ 0#3 ++ 0#2 ++ 0#6
  simp only [append_and, BitVec.and_zero]
  rfl

theorem unpackBegin (n : BitVec 6) (wc : BitVec 2) : Statement (.unpackBegin n wc) := by
  show (0x20#8 ++ 0#14 ++ wc ++ 0#2 ++ n) &&& (0xFF#8 ++ 0x3FFF#14 ++ 0#2 ++ 3#2 ++ 0#6) =
    0x20#8 ++ 0#14 ++ 0#2 ++ 0#2 ++ 0#6
  simp only [append_and, BitVec.and_zero]
  rfl

theorem unpackNext : Statement .unpackNext := by
  unfold Statement Meets
  decide

theorem unpackEnd : Statement .unpackEnd := by
  unfold Statement Meets
  decide

theorem packBegin (n rem : BitVec 6) (rm : Bool) : Statement (.packBegin n rem rm) := by
  show (0x30#8 ++ 0#7 ++ BitVec.ofBool rm ++ 0#2 ++ rem ++ 0#2 ++ n) &&&
      (0xFF#8 ++ 0x7F#7 ++ 0#1 ++ 3#2 ++ 0#6 ++ 3#2 ++ 0#6) =
    0x30#8 ++ 0#7 ++ 0#1 ++ 0#2 ++ 0#6 ++ 0#2 ++ 0#6
  simp only [append_and, BitVec.and_zero]
  rfl

theorem packPush : Statement .packPush := by
  unfold Statement Meets
  decide

theorem packEnd : Statement .packEnd := by
  unfold Statement Meets
  decide

end Sys2Proof.Laws.MatchesTable
end

