-- ==== Sys2Proof/Laws/Port.lean ====
section
/-! SUPPORT. Where the addresses of the map lead, and what a write to each of them is, so that no later proof unfolds
the address map. -/

namespace Sys2Proof.Machine

/-- Each register lies at its offset (R35). -/
theorem targetOf_register (c : Config) (r : Reg) :
    targetOf c (BitVec.ofNat 32 (registerOffset r)) = some (.register r) := by
  cases r <;> rfl

/-- A byte of SRC below the capacity lies at its offset (R73). -/
theorem targetOf_srcOffset {c : Config} (hc : c.srcBytes ≤ 2 ^ 24) {i : Nat} (hi : i < c.srcBytes) :
    targetOf c (BitVec.ofNat 32 (0x01000000 + i)) = some (.src i) := by
  unfold targetOf srcBase dstBase
  simp only [BitVec.toNat_ofNat]
  rw [Nat.mod_eq_of_lt (by omega), if_neg (by omega), if_pos (by omega), if_pos (by omega), Nat.add_sub_cancel_left]

/-- A byte of DST below the capacity lies at its offset (R73). -/
theorem targetOf_dstOffset {c : Config} (hc : c.dstBytes ≤ 2 ^ 24) {i : Nat} (hi : i < c.dstBytes) :
    targetOf c (BitVec.ofNat 32 (0x02000000 + i)) = some (.dst i) := by
  unfold targetOf srcBase dstBase
  simp only [BitVec.toNat_ofNat]
  rw [Nat.mod_eq_of_lt (by omega), if_neg (by omega), if_neg (by omega), if_pos (by omega), if_pos (by omega),
    Nat.add_sub_cancel_left]

/-- No address from the DST region on leads to a register or to SRC. -/
theorem targetOf_high {c : Config} {addr : Word} (h : 0x02000000 ≤ addr.toNat) :
    targetOf c addr = none ∨ ∃ i, targetOf c addr = some (.dst i) := by
  unfold targetOf srcBase dstBase
  dsimp only
  rw [if_neg (by omega), if_neg (by omega)]
  by_cases h1 : 0x02000000 ≤ addr.toNat ∧ addr.toNat < 0x02000000 + 2 ^ 24
  · rw [if_pos h1]
    by_cases h2 : addr.toNat - 0x02000000 < c.dstBytes
    · rw [if_pos h2]
      exact .inr ⟨_, rfl⟩
    · rw [if_neg h2]
      exact .inl rfl
  · rw [if_neg h1]
    exact .inl rfl

/-- No register lies at a misaligned offset, or from 0x060 on (R35). -/
theorem registerAt_none {a : Nat} (h : 0x060 ≤ a ∨ a % 4 ≠ 0) : registerAt a = none := by
  unfold registerAt
  rw [List.find?_eq_none]
  intro r _ hr
  have hr : registerOffset r = a := by simpa using hr
  subst hr
  cases r <;> simp [registerOffset] at h

/-- A 32-bit write to a register's address is that register's write. -/
theorem step_writeRegister {s : State} {rest : List Input} {r : Reg} {d : Word} {addr : Word}
    (ha : addr = BitVec.ofNat 32 (registerOffset r))
    (h : s.inputs = .transaction (.hostWrite addr (.word d)) :: rest) :
    step s = writeRegister r d (taken rest s) := by
  subst ha
  simp only [step, h, takeInput, transact, hostWrite, targetOf_register]

/-- A byte write to an address of SRC below the capacity is a write of that byte. -/
theorem step_writeSrc {s : State} {rest : List Input} {i : Nat} {b : Byte} (hc : s.cfg.srcBytes ≤ 2 ^ 24)
    (hi : i < s.cfg.srcBytes)
    (h : s.inputs = .transaction (.hostWrite (BitVec.ofNat 32 (0x01000000 + i)) (.byte b)) :: rest) :
    step s = writeSrc i b (taken rest s) := by
  have ht : targetOf (taken rest s).cfg (BitVec.ofNat 32 (0x01000000 + i)) = some (.src i) :=
    targetOf_srcOffset hc hi
  simp only [step, h, takeInput, transact, hostWrite, ht]

end Sys2Proof.Machine
end

