-- ==== Sys2Proof/Tests/Slice0.lean ====
section
/-! SUPPORT. The model's own tests: the decoding of words written out from spec/30_encoding.md, the refusals of
WellFormed and of the decoder, single commands against spec/95_test_vectors.md, and a witness for the hypotheses of
every obligation that has some. -/

namespace Sys2Proof.Tests

open Sys2Proof.Machine

/-! ### Decoding (R110, R113: opcode << 24 and the fields at their bits) -/

theorem test_decode_nop : decode 0x00000000#32 = .ok .nop := by decide
theorem test_decode_softReset : decode 0x01000000#32 = .ok .softReset := by decide
theorem test_decode_window : decode 0x10ABCDEF#32 = .ok (.window 0xABCDEF) := by decide
/-- `slice.ext 33, 5`: `0x18 << 24 | b << 8 | n`. -/
theorem test_decode_sliceExtract : decode 0x18000521#32 = .ok (.sliceExtract 33 5) := by decide
/-- `slice.mrg 6, 2, 0xC0`: `0x19 << 24 | rb << 16 | rl << 8 | n`. -/
theorem test_decode_sliceMerge : decode 0x19C00206#32 = .ok (.sliceMerge 6 2 0xC0) := by decide
/-- `unpack.begin 11, w16`: `0x20 << 24 | wc << 8 | n`. -/
theorem test_decode_unpackBegin : decode 0x2000010B#32 = .ok (.unpackBegin 11 1) := by decide
theorem test_decode_unpackNext : decode 0x21000000#32 = .ok .unpackNext := by decide
theorem test_decode_unpackEnd : decode 0x22000000#32 = .ok .unpackEnd := by decide
/-- `pack.begin 11`: `0x30 << 24 | n`. -/
theorem test_decode_packBegin : decode 0x3000000B#32 = .ok (.packBegin 11 0 false) := by decide
/-- `pack.begin.rem 11, 9`: `0x30 << 24 | 1 << 16 | remain << 8 | n`. -/
theorem test_decode_packBeginRem : decode 0x3001090B#32 = .ok (.packBegin 11 9 true) := by decide
theorem test_decode_packPush : decode 0x31000000#32 = .ok .packPush := by decide
theorem test_decode_packEnd : decode 0x32000000#32 = .ok .packEnd := by decide

/-! ### Refusals of the decoder (R111; vectors H15, X11, X12, M8, M9, U15, U16, K20 to K22) -/

/-- Whether the decoder refuses a word for a reason. -/
def refusedFor (why : IllegalReason) (w : Word) : Bool :=
  match decode w with
  | .error r => decide (r = why)
  | .ok _ => false

theorem test_unassigned_opcodes :
    [0x02000000#32, 0x11000000#32, 0x23000000#32, 0x33000000#32, 0xFF000000#32].all
      (refusedFor .unassignedOpcode) = true := by decide
theorem test_reserved_bits :
    [0x00000001#32, 0x01000001#32, 0x18000804#32, 0x18000044#32, 0x19000821#32, 0x19C00246#32].all
      (refusedFor .reservedBit) = true := by decide
theorem test_reserved_bits_of_sessions :
    [0x20000040#32, 0x21000001#32, 0x30020006#32, 0x30004006#32, 0x31800000#32].all
      (refusedFor .reservedBit) = true := by decide
theorem test_reserved_values :
    decode 0x20000300#32 = .error .reservedFieldValue ∧ decode 0x30000206#32 = .error .reservedFieldValue := by decide
theorem test_decodeTableWord : decodeTableWord 32 0x10000005 = some (.window 5) ∧ decodeTableWord 32 0x02000000 = none := by
  decide

/-! ### WellFormed -/

/-- The width code 3 is refused (R111.3). -/
theorem test_illformed_unpackBegin : ¬ (Instr.unpackBegin 6 3).WellFormed := by decide
/-- REM without RM is refused (R111.4). -/
theorem test_illformed_packBegin : ¬ (Instr.packBegin 6 2 false).WellFormed := by decide
theorem test_wellformed_bounds :
    (Instr.unpackBegin 63 2).WellFormed ∧ (Instr.packBegin 63 63 true).WellFormed ∧
    (Instr.packBegin 63 0 false).WellFormed := by decide

/-! ### Small states -/

/-- The state after a command. -/
def after (i : Instr) (s : State) : State :=
  match exec i s with
  | .next t => t
  | .fault _ => s
  | .refused _ => s

/-- The reset state with the bytes of a source buffer loaded (R323). -/
def loaded (bytes : List Byte) : State :=
  { State.reset with src := Memory.writeAll [] 0 bytes, srcLen := BitVec.ofNat 25 bytes.length }

/-- An unpack session of `n`-bit groups over those bytes. -/
def unpacking (n : BitVec 6) (bytes : List Byte) : State := after (.unpackBegin n 2) (loaded bytes)

/-- A pack session with a value in X_LO. -/
def packing (n rem : BitVec 6) (rm : Bool) (x : Word) : State :=
  { after (.packBegin n rem rm) State.reset with xLo := x }

/-- A state whose host does one thing next. -/
def withInput (i : Input) (s : State) : State := { s with inputs := [i] }

/-! ### Commands (spec/95_test_vectors.md) -/

/-- Vector Y2: NOP clears ERR and keeps STICKY. -/
theorem test_nop : statusImage (after .nop { State.reset with err := 3, sticky := true }) = 0x1000#32 := by decide
/-- Vector Y8: SOFT_RESET keeps SRC[0] and clears SRC_LEN, X_LO and STATUS. -/
theorem test_softReset :
    let t := after .softReset { unpacking 3 [1, 2, 3] with xLo := 5, sticky := true }
    (srcByte t 0, t.srcLen, t.xLo, statusImage t) = (1#8, 0#25, 0#32, 0#32) := by decide
/-- Vector W3: zero tail-padding. -/
theorem test_window :
    let t := after (.window 5) (loaded [1, 2, 3, 4, 5, 6, 7, 8, 9, 10])
    (t.rHi, t.rLo) = (0x06070809#32, 0x0A000000#32) := by decide
/-- Vector W5: RANGE at `i = L`, R not written. -/
theorem test_window_range :
    let t := after (.window 10) { loaded [1, 2, 3, 4, 5, 6, 7, 8, 9, 10] with rHi := 0x0A000000 }
    (t.rHi, statusImage t) = (0x0A000000#32, 0x1400#32) := by decide
/-- Vector X3: the lowest field of 32 bits. -/
theorem test_sliceExtract :
    let t := after (.sliceExtract 32 7) { State.reset with xHi := 0xDEADBEEF, xLo := 0x01234567, rHi := 1 }
    (t.rHi, t.rLo) = (0#32, 0x56DF7780#32) := by decide
/-- Vector X9: CONFIG on `n`. -/
theorem test_sliceExtract_config :
    let t := after (.sliceExtract 33 0) State.reset
    (statusImage t, t.errParam, t.errValue, t.errMin, t.errMax) = (0x1100#32, 1#8, 0x21#32, 1#32, 0x20#32) := by decide
/-- Vector M2: `n = 32`, `rl = 7`. -/
theorem test_sliceMerge :
    let t := after (.sliceMerge 32 7 0xFE) { State.reset with xLo := 0xFFFFFFFF }
    (t.rHi, t.rLo) = (0xFFFFFFFF#32, 0xFE000000#32) := by decide
/-- Vector M4: the bits of `rb` below its top 3 are ignored. -/
theorem test_sliceMerge_ignores_low_bits :
    let t := after (.sliceMerge 3 3 0xBF) { State.reset with xLo := 5 }
    (t.rHi, t.rLo) = (0xB4000000#32, 0#32) := by decide
/-- Example of R185: SRC_LEN = 2, `n = 6`. -/
theorem test_unpackBegin :
    let t := after (.unpackBegin 6 0) (loaded [0xFF, 0xFF])
    (t.uN, t.uPos, t.uRemain, statusImage t) = (6#6, 0#32, 2#6, 1#32) := by decide
/-- Vector U11: `n > W`. -/
theorem test_unpackBegin_config :
    let t := after (.unpackBegin 16 0) (loaded [1, 2])
    (statusImage t, t.errValue, t.errMin, t.errMax) = (0x1100#32, 0x10#32, 1#32, 8#32) := by decide
/-- Vector U3, the sixth group: it straddles a 64-bit boundary and is read whole. -/
theorem test_unpackNext_straddle :
    let t := after .unpackNext { unpacking 11 (List.replicate 9 0xFF) with uPos := 55, uCount := 5 }
    (t.rLo, t.uPos, t.uCount, t.uValid) = (0x7FF#32, 66#32, 6#32, true) := by decide
/-- Vector U1, the fourth UNPACK_NEXT: none is left. -/
theorem test_unpackNext_exhausted :
    let t := after .unpackNext { unpacking 6 [0xFF, 0xFF] with uPos := 18, uCount := 3, uValid := true, rLo := 0x3C }
    (t.rLo, t.uPos, t.uCount, statusImage t) = (0#32, 18#32, 3#32, 5#32) := by decide
/-- Example of R189. -/
theorem test_unpackEnd :
    let t := after .unpackEnd { unpacking 6 [0xFF, 0xFF] with uPos := 18, uCount := 3 }
    (statusImage t, t.uPos, t.uCount, t.uRemain) = (0#32, 18#32, 3#32, 2#6) := by decide
/-- Vector U18: STATE. -/
theorem test_unpackEnd_state : statusImage (after .unpackEnd State.reset) = 0x1300#32 := by decide
/-- Example of R226. -/
theorem test_packBegin :
    let t := after (.packBegin 6 2 true) State.reset
    (registerImage .P_CFG t, t.dstLen, statusImage t) = (0x10206#32, 0#25, 8#32) := by decide
/-- Vector K27: CONFIG on `remain` with `n = 1`. -/
theorem test_packBegin_config :
    let t := after (.packBegin 1 5 true) State.reset
    (statusImage t, t.errParam, t.errValue, t.errMin, t.errMax) = (0x1100#32, 2#8, 5#32, 0#32, 0#32) := by decide
/-- Vector K7, the second push: `rl = 7`, `t = 38`, four bytes. -/
theorem test_packPush :
    let t := after .packPush
      { packing 31 0 false 0x12345678 with dstLen := 3, pRByte := 0xFE, pRLen := 7, pCount := 1, pBits := 31 }
    ([3, 4, 5, 6].map (dstByte t), t.dstLen, registerImage .P_REM t) =
      ([0xFE#8, 0x48#8, 0xD1#8, 0x59#8], 7#25, 0x6E0#32) := by decide
/-- Vector K13, the push of CC: CAPACITY with DST_BYTES = 2. -/
theorem test_packPush_capacity :
    let t := after .packPush
      { packing 8 0 false 0xCC with cfg := ⟨4096, 2⟩, dstLen := 2, pCount := 2, pBits := 16 }
    (statusImage t, t.dstLen, t.pCount) = (0x1508#32, 2#25, 2#32) := by decide
/-- Vector K1, PACK_END: the flush byte C0. -/
theorem test_packEnd_flush :
    let t := after .packEnd { packing 6 0 false 0x3F with dstLen := 2, pRByte := 0xC0, pRLen := 2, pCount := 3, pBits := 18 }
    (dstByte t 2, t.dstLen, registerImage .P_REM t, statusImage t) = (0xC0#8, 3#25, 0#32, 0x10#32) := by decide
/-- Vector K4, PACK_END: 33 bits with `remain = 9` leave three bytes. -/
theorem test_packEnd_truncate :
    let t := after .packEnd
      { packing 11 9 true 0x600 with dstLen := 4, pRByte := 0, pRLen := 1, pCount := 3, pBits := 33 }
    (t.dstLen, dstVisible t 3, statusImage t) = (3#25, 0#8, 0x10#32) := by decide

/-! ### The port (vectors H1, H5 to H9, H13, H14, U21, Y5) and the fetch of a command -/

theorem test_read_id : hostRead 0x000#32 .four State.reset = .okRead (.word 0x4E424954#32) := by decide
theorem test_bus_errors :
    hostRead 0x060#32 .four State.reset = .busErr ∧ hostRead 0x002#32 .four State.reset = .busErr ∧
    hostRead 0x020#32 .two State.reset = .busErr ∧ hostRead 0x01000000#32 .four State.reset = .busErr ∧
    hostRead 0x01001000#32 .one State.reset = .busErr ∧ hostRead 0x03000000#32 .one State.reset = .busErr := by decide
theorem test_src_locked :
    let s := unpacking 8 [1, 2]
    step (withInput (.transaction (.hostWrite 0x01000000#32 (.byte 0x55#8))) s) =
      .next { s with responses := [.busErr] } := rfl
theorem test_sticky_cleared :
    let s := { State.reset with err := 2, sticky := true }
    statusImage (stepTo (withInput (.transaction (.hostWrite 0x00C#32 (.word 0x1000#32))) s)) = 0x200#32 := by decide
theorem test_half_write_to_cmd :
    (stepTo (withInput (.transaction (.hostWrite 0x008#32 (.half 0#16))) State.reset)).responses = [.busErr] := by decide
theorem test_withFetchWord_runs_the_command :
    (stepTo (State.reset.withFetchWord 32 0x30010206)).pN = 6#6 := by decide

/-! ### Witnesses: for each obligation with hypotheses, inputs that meet them together, clause by clause -/

/-- A read of an address. -/
def readOf (addr : Word) (w : Width) : Input := .transaction (.hostRead addr w)

/-- A 32-bit write of an address. -/
def writeOf (addr d : Word) : Input := .transaction (.hostWrite addr (.word d))

theorem witness_DecodeOfEncodeIsTheCommand :
    (Instr.packBegin 63 63 true).WellFormed ∧ (Instr.unpackBegin 0 2).WellFormed := by decide
theorem witness_EncodeOfDecodeIsTheWord : ∃ i, decode 0x19FF073F#32 = .ok i := ⟨.sliceMerge 63 7 0xFF, by decide⟩
/-- R111.1 at both ends of the unassigned values. -/
theorem witness_IllegalWord_opcode : IllegalWord 0x02000000#32 ∧ IllegalWord 0xFF000000#32 :=
  ⟨.inl (by decide), .inl (by decide)⟩
/-- R111.2, a reserved bit beside a field of each format. -/
theorem witness_IllegalWord_reserved :
    IllegalWord 0x32000001#32 ∧ IllegalWord 0x18000800#32 ∧ IllegalWord 0x19000040#32 ∧ IllegalWord 0x20000400#32 ∧
    IllegalWord 0x30020000#32 :=
  ⟨.inr (.inl (by decide)), .inr (.inl (by decide)), .inr (.inl (by decide)), .inr (.inl (by decide)),
    .inr (.inl (by decide))⟩
/-- R111.3 and R111.4. -/
theorem witness_IllegalWord_value : IllegalWord 0x20000300#32 ∧ IllegalWord 0x30000100#32 :=
  ⟨.inr (.inr (.inl (by decide))), .inr (.inr (.inr (by decide)))⟩
/-- Legal words with every field at its greatest value. -/
theorem witness_legal_Z : ¬ IllegalWord 0x32000000#32 := by decide
theorem witness_legal_SX : ¬ IllegalWord 0x1800073F#32 := by decide
theorem witness_legal_SM : ¬ IllegalWord 0x19FF073F#32 := by decide
theorem witness_legal_U : ¬ IllegalWord 0x2000023F#32 := by decide
theorem witness_legal_P : ¬ IllegalWord 0x30013F3F#32 := by decide
theorem witness_legal_P_without_remain : ¬ IllegalWord 0x3000003F#32 := by decide
theorem witness_StepRunsTheDecodedCommand :
    (∃ t, (withInput (writeOf 0x008 0) State.reset).inputs = [writeOf 0x008 0] ∧ decode 0x00000000#32 = .ok .nop ∧
      exec .nop { withInput (writeOf 0x008 0) State.reset with inputs := [] } = .next t) ∧
    decode 0x00000001#32 = .error .reservedBit := ⟨⟨_, rfl, by decide, rfl⟩, by decide⟩
theorem witness_NoInputLeavesTheStateAsItIs : State.reset.inputs = [] := rfl
theorem witness_HardResetZeroesRegistersAndDrawsMemories :
    (withInput .hardReset (unpacking 6 [1])).inputs = .hardReset :: [] := rfl
theorem witness_ReadsHaveNoSideEffect :
    (withInput (readOf 0x00C .four) State.reset).inputs = readOf 0x00C .four :: [] := rfl
theorem witness_Valid_least : (Config.mk 1 1).Valid := by decide
theorem witness_Valid_greatest : (Config.mk (2 ^ 24) (2 ^ 24)).Valid := by decide
/-- Both ends of SRC, and DST on both sides of DST_LEN. -/
theorem witness_BufferReadsGiveTheirBytes :
    let s := { State.reset with dstLen := 5 }
    s.cfg.Valid ∧ 0 < s.cfg.srcBytes ∧ 4095 < s.cfg.srcBytes ∧ (4 < s.cfg.dstBytes ∧ 4 < s.dstLen.toNat) ∧
      (5 < s.cfg.dstBytes ∧ s.dstLen.toNat ≤ 5) ∧ 4095 < s.cfg.dstBytes := by decide
theorem witness_StatusWriteClearsStickyOnBit12 :
    (withInput (writeOf 0x00C 0x1000) State.reset).inputs = writeOf 0x00C 0x1000 :: [] ∧
    (0x1000#32).getLsbD 12 = true ∧ (0xFFFFEFFF#32).getLsbD 12 = false := ⟨rfl, by decide, by decide⟩
/-- SRC_BYTES and SRC_BYTES + 1, with and without a session. -/
theorem witness_SrcLenWriteIsCheckedThenStored :
    State.reset.cfg.Valid ∧ (withInput (writeOf 0x030 4096) State.reset).inputs = writeOf 0x030 4096 :: [] ∧
    (unpacking 6 [1]).uActive = true ∧ State.reset.uActive = false ∧
    State.reset.cfg.srcBytes < (4097#32).toNat ∧ (4096#32).toNat ≤ State.reset.cfg.srcBytes :=
  ⟨by decide, rfl, by decide, by decide, by decide, by decide⟩
theorem witness_SrcByteWriteStoresOneByte :
    State.reset.cfg.Valid ∧ 4095 < State.reset.cfg.srcBytes ∧
    (withInput (.transaction (.hostWrite (BitVec.ofNat 32 (0x01000000 + 4095)) (.byte 7))) State.reset).inputs =
      [.transaction (.hostWrite (BitVec.ofNat 32 (0x01000000 + 4095)) (.byte 7))] ∧
    (unpacking 6 [1]).uActive = true ∧ State.reset.uActive = false :=
  ⟨by decide, by decide, rfl, by decide, by decide⟩
theorem witness_OperandRegisterWritesStoreTheData :
    (withInput (writeOf 0x020 1) State.reset).inputs = writeOf 0x020 1 :: [] ∧
    (withInput (writeOf 0x024 1) State.reset).inputs = writeOf 0x024 1 :: [] := ⟨rfl, rfl⟩
theorem witness_ReadOnlyWritesAreRefused :
    (withInput (writeOf 0x05C 1) State.reset).inputs = writeOf 0x05C 1 :: [] ∧
    0x05C#32 ∈ [0x058#32, 0x05C#32] ∧ 0x02000000 ≤ (0x02000000#32).toNat := ⟨rfl, by decide, by decide⟩
/-- Each way of AccessRefused at an edge, beside accesses that are served. -/
theorem witness_AccessRefused_register :
    let c := State.reset.cfg
    AccessRefused c 0x060 .four ∧ AccessRefused c 0x05D .four ∧ AccessRefused c 0x05C .two := by decide
theorem witness_not_AccessRefused : ¬ AccessRefused State.reset.cfg 0x05C .four := by decide
theorem witness_AccessRefused_unmapped :
    let c := State.reset.cfg
    AccessRefused c 0x1000 .four ∧ AccessRefused c 0x00FFFFFF .one ∧ AccessRefused c 0x03000000 .one := by decide
theorem witness_AccessRefused_src :
    let c := State.reset.cfg
    AccessRefused c 0x01001000 .one ∧ AccessRefused c 0x01000FFF .two ∧ ¬ AccessRefused c 0x01000FFF .one := by decide
theorem witness_AccessRefused_dst :
    let c := State.reset.cfg
    AccessRefused c 0x02001000 .one ∧ AccessRefused c 0x02000000 .four ∧ ¬ AccessRefused c 0x02000FFF .one := by decide
theorem witness_UnmappedAndIllFormedAccessesAreRefused :
    (AccessRefused State.reset.cfg 0x060 (dataWidth (.word 0))) ∧
    (withInput (readOf 0x060 .four) State.reset).inputs = readOf 0x060 .four :: [] ∧
    (withInput (writeOf 0x060 0) State.reset).inputs = writeOf 0x060 0 :: [] := ⟨by decide, rfl, rfl⟩
theorem witness_BusErrorsChangeNoState :
    let s := withInput (writeOf 0x000 0) State.reset
    ∃ t, s.inputs = writeOf 0x000 0 :: [] ∧ step s = .next t ∧ t.responses.head? = some .busErr ∧
      t.responses = .busErr :: s.responses := ⟨_, rfl, rfl, rfl, rfl⟩
/-- For the clause of every format Z command: a word with one reserved bit set. -/
theorem witness_reserved_operand : (1#24 : BitVec 24) ≠ 0 ∧ (0x800000#24 : BitVec 24) ≠ 0 := by decide
theorem witness_WindowReturnsTheWindowOrRaisesRange :
    (2#24).toNat < (loaded [1, 2, 3]).srcLen.toNat ∧ (loaded [1, 2, 3]).srcLen.toNat ≤ (3#24).toNat := by decide
/-- For SLICE_EXTRACT, SLICE_MERGE and PACK_BEGIN: the group width at the edges of `[1, 32]`. -/
theorem witness_group_width :
    (1 ≤ (1#6).toNat ∧ (32#6).toNat ≤ 32) ∧ ((0#6).toNat < 1 ∧ 32 < (33#6).toNat ∧ 32 < (63#6).toNat) := by decide
theorem witness_UnpackBeginOpensASessionOrRaisesConfig :
    (0#2 : BitVec 2) ≠ 3#2 ∧ (1 ≤ (8#6).toNat ∧ (8#6).toNat ≤ min 32 (8 * 2 ^ (0#2).toNat)) ∧
    min 32 (8 * 2 ^ (0#2).toNat) < (9#6).toNat ∧ (16#6).toNat ≤ min 32 (8 * 2 ^ (1#2).toNat) ∧
    (32#6).toNat ≤ min 32 (8 * 2 ^ (2#2).toNat) ∧ min 32 (8 * 2 ^ (2#2).toNat) < (33#6).toNat := by decide
theorem witness_UnpackNextDeliversTheGroupAtTheCursor :
    let s := unpacking 6 [0xFF, 0xFF]
    (s.uActive = true ∧ { s with uPos := 15 }.uPos.toNat < 8 * s.srcLen.toNat) ∧
    8 * s.srcLen.toNat ≤ { s with uPos := 16 }.uPos.toNat ∧ State.reset.uActive = false := by decide
theorem witness_UnpackEndClosesTheSession :
    (unpacking 6 [1]).uActive = true ∧ State.reset.uActive = false := by decide
theorem witness_PackBeginOpensASessionOrRaisesConfig :
    (6#6).toNat ≤ 32 ∧ (true = true → (5#6).toNat < (6#6).toNat) ∧ (6#6).toNat ≤ (6#6).toNat ∧ (2#6 : BitVec 6) ≠ 0 ∧
    (false = false → (0#6 : BitVec 6) = 0) := by decide
/-- The last byte of DST just fits, and just does not. -/
theorem witness_PackPushPacksTheOperand :
    let s := { packing 8 0 false 1 with dstLen := 4095 }
    (s.cfg.Valid ∧ s.pActive = true ∧ s.dstLen.toNat + (s.pN.toNat + s.pRLen.toNat) / 8 ≤ s.cfg.dstBytes) ∧
    State.reset.pActive = false ∧
    s.cfg.dstBytes < { s with dstLen := 4096 }.dstLen.toNat + (s.pN.toNat + s.pRLen.toNat) / 8 := by decide
theorem witness_PackEndFlushesTruncatesAndCloses :
    let s := { packing 6 0 false 1 with dstLen := 2, pBits := 18 }
    (s.cfg.Valid ∧ s.pActive = true ∧ 3 = (s.pBits.toNat - (if s.pRm = true then s.pRemV.toNat else 0) + 7) / 8 ∧
      3 ≤ s.cfg.dstBytes) ∧ s.dstLen.toNat < 3 ∧ { s with cfg := ⟨1, 2⟩ }.cfg.dstBytes < 3 ∧
    State.reset.pActive = false := by decide
theorem witness_FailingCommandsChangeOnlyTheOutcome :
    ∃ t, exec .unpackNext State.reset = .next t ∧ t.err ≠ 0 ∧ t.err ≠ 1 := ⟨_, rfl, by decide, by decide⟩
theorem witness_SuccessfulCommandsZeroTheOutcome :
    ∃ t, exec .nop State.reset = .next t ∧ t.err = 0 ∧ Instr.nop ≠ .softReset := ⟨_, rfl, by decide, by decide⟩
/-- One command for each cause of R282 to R285. -/
theorem witness_EachErrorIsRaisedExactlyForItsCause :
    ([after (.packBegin 6 6 true) State.reset, after .packEnd State.reset, after (.window 0) State.reset,
      after .packPush { packing 8 0 false 1 with cfg := ⟨1, 1⟩, dstLen := 1 }].map (·.err)) = [1, 3, 4, 5] := by decide
theorem witness_EachErrorIsRaisedExactlyForItsCause_next :
    ∃ t, (Instr.packBegin 6 6 true).WellFormed ∧ exec (.packBegin 6 6 true) State.reset = .next t :=
  ⟨_, by decide, rfl⟩
/-- A reserved bit beside the fields, a reserved width code, REM without RM: the words of R165, R167, R185 and R226. -/
theorem witness_reserved_bit_of_fields :
    (opcode 0x18000800#32 = 0x18#8 ∧ 0x18000800#32 &&& 0x00FFF8C0#32 ≠ 0) ∧
    (opcode 0x19000040#32 = 0x19#8 ∧ 0x19000040#32 &&& 0x0000F8C0#32 ≠ 0) ∧
    (opcode 0x20000400#32 = 0x20#8 ∧ 0x20000400#32 &&& 0x00FFFCC0#32 ≠ 0) ∧
    0x20000300#32 &&& 0x00000300#32 = 0x00000300#32 := by decide
theorem witness_reserved_bit_of_fields_P :
    (opcode 0x30020000#32 = 0x30#8 ∧ 0x30020000#32 &&& 0x00FEC0C0#32 ≠ 0) ∧
    (0x30000100#32 &&& 0x00010000#32 = 0 ∧ 0x30000100#32 &&& 0x00003F00#32 ≠ 0) := by decide
theorem witness_WindowBitsAreStreamBits : (2 : Nat) < 3 ∧ (63 : Nat) ≤ 63 := by decide
/-- For Extract and Merge: both ends of `b`, `rl` and `n`. -/
theorem witness_slice_ranges : (7 : Nat) ≤ 7 ∧ (1 : Nat) ≤ 1 ∧ (32 : Nat) ≤ 32 ∧ (31 : Nat) < 32 ∧ (24 : Nat) < 64 - 7 - 32 := by
  decide
/-- For Remain, Chunks, ConjoinRem and the round trip (widths 1 and 32, `remain` at its greatest and least). -/
theorem witness_group_ranges : (1 : Nat) ≤ 1 ∧ (32 : Nat) ≤ 32 ∧ (31 : Nat) < 32 ∧ (0 : Nat) < 1 := by decide
theorem witness_CommandsWriteOnlyTheirOwnPart :
    ∃ t, exec .unpackEnd (unpacking 6 [1]) = .next t ∧ Instr.unpackEnd ≠ .packPush ∧ Instr.unpackEnd ≠ .packEnd ∧
      Instr.unpackEnd ≠ .softReset ∧ Instr.unpackEnd ≠ .unpackNext ∧ (∀ off, Instr.unpackEnd ≠ .window off) ∧
      (∀ n b, Instr.unpackEnd ≠ .sliceExtract n b) ∧ ∀ n rl rb, Instr.unpackEnd ≠ .sliceMerge n rl rb :=
  ⟨_, rfl, by decide, by decide, by decide, by decide, fun _ h => Instr.noConfusion h,
    fun _ _ h => Instr.noConfusion h, fun _ _ _ h => Instr.noConfusion h⟩
/-- The clauses on the U_ part and the P_ part, each met by a command of the other side. -/
theorem witness_CommandsWriteOnlyTheirOwnPart_sessions :
    (∃ t, exec .packPush (packing 6 0 false 1) = .next t ∧ Instr.packPush ≠ .softReset ∧
      isUnpackBegin .packPush = false ∧ Instr.packPush ≠ .unpackNext ∧ Instr.packPush ≠ .unpackEnd) ∧
    ∃ t, exec .unpackNext (unpacking 6 [1]) = .next t ∧ Instr.unpackNext ≠ .softReset ∧
      isPackBegin .unpackNext = false ∧ Instr.unpackNext ≠ .packPush ∧ Instr.unpackNext ≠ .packEnd :=
  ⟨⟨_, rfl, by decide, by decide, by decide, by decide⟩, ⟨_, rfl, by decide, by decide, by decide, by decide⟩⟩
theorem witness_UnpackerAndPackerShareNoState :
    (∃ t, isUnpackBegin (.unpackBegin 6 0) = true ∧ exec (.unpackBegin 6 0) State.reset = .next t) ∧
    ∃ t, isPackBegin (.packBegin 6 0 false) = true ∧ exec (.packBegin 6 0 false) State.reset = .next t :=
  ⟨⟨_, rfl, rfl⟩, ⟨_, rfl, rfl⟩⟩
theorem witness_OnlyUnpackCommandsAndResetsMoveTheCursor :
    let s := withInput (writeOf 0x008 0x21000000) (unpacking 6 [0xFF, 0xFF])
    ∃ t, step s = .next t ∧ t.uPos ≠ s.uPos := ⟨_, rfl, by decide⟩
theorem witness_SourceIsLockedWhileASessionIsOpen :
    let s := withInput (writeOf 0x030 1) (unpacking 6 [0xFF, 0xFF])
    ∃ t, step s = .next t ∧ s.uActive = true ∧ t.uActive = true := ⟨_, rfl, by decide, by decide⟩

/-- An unpack session in its middle is sound. -/
theorem unpacking_sound :
    StateSound { unpacking 6 [0xFF, 0xFF] with uPos := 12, uCount := 2, uValid := true, rLo := 0x3F } :=
  ⟨by decide, by decide, by decide, by decide, by decide, by decide, by decide⟩

/-- A pack session in its middle, with one byte in DST and a remainder. -/
def packingMiddle : State :=
  { packing 6 2 true 0x3C with
    dst := [(0, 0xFF)], dstLen := 1, pRByte := 0xF0, pRLen := 4, pCount := 2, pBits := 12 }

theorem packing_sound : StateSound packingMiddle :=
  ⟨by decide, by decide, by decide, by decide, by decide, by decide, by decide⟩

theorem witness_EveryStepKeepsTheRegisterLaws :
    ∃ t, StateSound packingMiddle ∧ step packingMiddle = .next t := ⟨_, packing_sound, rfl⟩
theorem witness_CountersNeverWrap :
    (StateSound packingMiddle ∧ packingMiddle.pActive = true) ∧
    ∃ s, StateSound s ∧ s.uActive = true := ⟨⟨packing_sound, by decide⟩, _, unpacking_sound, by decide⟩
theorem witness_UnpackNextDeliversTheNextChunk : ∃ s, StateSound s ∧ s.uActive = true :=
  ⟨_, unpacking_sound, by decide⟩

/-- A loaded buffer, and the host about to ask for two values. -/
def unpackSession : State :=
  { loaded [0xFF, 0xFF] with inputs := [writeOf 0x008 0x21000000, writeOf 0x008 0x21000000] }

theorem witness_UnpackSessionsDeliverChunks :
    ∃ s, StateSound unpackSession ∧ exec (.unpackBegin 6 0) unpackSession = .next s ∧ s.err = 0 ∧ UnpackLasts 2 s :=
  ⟨_, ⟨by decide, by decide, by decide, by decide, by decide, by decide, by decide⟩, rfl, by decide,
    by decide, by decide, by decide, by decide, Eq.refl true⟩
theorem witness_PackPushAppendsToTheStream :
    ∃ t, StateSound packingMiddle ∧ HoldsTheStreamOf [0x3F, 0x3F] packingMiddle ∧
      exec .packPush packingMiddle = .next t ∧ t.err = 0 :=
  ⟨_, packing_sound, by decide, rfl, by decide⟩

/-- The reset state, and the host about to push two values. -/
def packSession : State :=
  { State.reset with
    inputs := [writeOf 0x020 0x3F, writeOf 0x008 0x31000000, writeOf 0x020 0x3C, writeOf 0x008 0x31000000] }

theorem witness_PackSessionsHoldTheStreamPushed :
    (StateSound packingMiddle ∧ packingMiddle.pActive = true) ∧
    ∃ s, StateSound packSession ∧ exec (.packBegin 6 2 true) packSession = .next s ∧ s.err = 0 ∧ PackLasts 4 s :=
  ⟨⟨packing_sound, by decide⟩, _, ⟨by decide, by decide, by decide, by decide, by decide, by decide, by decide⟩, rfl,
    by decide,
    ⟨by decide, by decide, by decide, by decide, by decide, by decide, by decide, by decide, Eq.refl true⟩⟩
theorem witness_PackSessionsOutputConjoin :
    ∃ s t, StateSound packSession ∧ exec (.packBegin 6 2 true) packSession = .next s ∧ s.err = 0 ∧ PackLasts 4 s ∧
      exec .packEnd (afterSteps 4 s) = .next t ∧ t.err = 0 :=
  ⟨_, _, ⟨by decide, by decide, by decide, by decide, by decide, by decide, by decide⟩, rfl, by decide,
    ⟨by decide, by decide, by decide, by decide, by decide, by decide, by decide, by decide, Eq.refl true⟩, rfl,
    by decide⟩

end Sys2Proof.Tests
end

section
/-! Proofs of the family 10_state.md: the STATUS write (R41), and the invariant that every step keeps a sound state
sound. The invariant is proved once per layer: each command's result is legal, and `finish`, the port and the resets
keep a sound state sound. -/

namespace Sys2Proof.Machine

/-! ### The STATUS write (R41) -/

theorem writeStatus_of_set {d : Word} (h : d.getLsbD 12 = true) (s : State) :
    writeStatus d s = { s with sticky := false } := if_pos h

theorem writeStatus_of_clear {d : Word} (h : d.getLsbD 12 = false) (s : State) : writeStatus d s = s :=
  if_neg (Bool.not_eq_true _ ▸ h)

/-- Settles O15: the address 0x00C is STATUS, and its write looks at bit 12 alone. -/
theorem statusWriteClearsStickyOnBit12 : Obligations.StatusWriteClearsStickyOnBit12 := by
  unfold Obligations.StatusWriteClearsStickyOnBit12
  intro s rest d h
  have hstep : step s = accept (writeStatus d (taken rest s)) := step_writeRegister (r := .STATUS) rfl h
  constructor
  · intro hd
    rw [hstep, writeStatus_of_set hd]
    rfl
  · intro hd
    rw [hstep, writeStatus_of_clear hd]
    rfl

/-! ### Bits of the packer's masks and windows -/

/-- `hmask8 r` has exactly its top `r` bits set (R18). -/
theorem getLsbD_hmask8 (r i : Nat) : (hmask8 r).getLsbD i = (decide (8 - r ≤ i) && decide (i < 8)) := by
  rw [hmask8, BitVec.getLsbD_ofNat, Nat.testBit_shiftLeft, show 0xFF = 2 ^ 8 - 1 from rfl, Nat.testBit_two_pow_sub_one]
  by_cases h8 : i < 8
  · have : i - (8 - r) < 8 := by omega
    simp [h8, this]
  · simp [h8]

/-- R52's condition on the remainder byte, bit by bit: everything below the top `r` bits is 0. -/
theorem and_not_hmask8_eq_zero_iff (b : Byte) (r : Nat) :
    b &&& ~~~(hmask8 r) = 0 ↔ ∀ i < 8 - r, b.getLsbD i = false := by
  constructor
  · intro h i hi
    have hbit : (b &&& ~~~(hmask8 r)).getLsbD i = (0 : Byte).getLsbD i := by rw [h]
    have h8 : i < 8 := by omega
    rw [BitVec.getLsbD_and, BitVec.getLsbD_not, getLsbD_hmask8] at hbit
    simpa [h8, Nat.not_le.mpr hi] using hbit
  · intro h
    apply BitVec.eq_of_getLsbD_eq
    intro i h8
    rw [BitVec.getLsbD_and, BitVec.getLsbD_not, getLsbD_hmask8]
    by_cases hi : i < 8 - r
    · simp only [h i hi, Bool.false_and, BitVec.ofNat_eq_ofNat, BitVec.getLsbD_zero]
    · simp [h8, Nat.le_of_not_lt hi]

/-- The bits of a merged window below its top `rl + n` are 0 (R162). -/
theorem getLsbD_merge_low (rb : Byte) (m : Word) {rl n p : Nat} (h : p + rl + n < 64) :
    (merge rb rl m n).getLsbD p = false := by
  have hbody : rl + p < 64 - n := by omega
  have hpre : p < 56 ∨ ¬ 8 - rl ≤ p - 56 := by omega
  simp only [merge, BitVec.getLsbD_or, BitVec.getLsbD_shiftLeft, BitVec.getLsbD_ushiftRight, BitVec.getLsbD_setWidth,
    BitVec.getLsbD_and, getLsbD_hmask8]
  rcases hpre with hpre | hpre <;> simp [hbody, hpre]

/-- Byte `j` of a window, bit by bit (R229). -/
theorem getLsbD_byteOfWindow (win : DWord) (j i : Nat) :
    (byteOfWindow win j).getLsbD i = (decide (i < 8) && win.getLsbD (56 - 8 * j + i)) := by
  rw [byteOfWindow, BitVec.getLsbD_setWidth, BitVec.getLsbD_ushiftRight]

/-- The remainder byte that a push leaves is left-aligned (R52): `t mod 8` bits of the window follow its whole bytes. -/
theorem pushRemainder_leftAligned {s : State} (hn : s.pN.toNat ≤ 32) :
    byteOfWindow (pushWindow s) (readyBytes s) &&& ~~~(hmask8 (readyBits s % 8)) = 0 := by
  have hrl : s.pRLen.toNat < 8 := s.pRLen.isLt
  rw [and_not_hmask8_eq_zero_iff]
  intro i hi
  rw [getLsbD_byteOfWindow, pushWindow, getLsbD_merge_low, Bool.and_false]
  unfold readyBytes
  unfold readyBits at hi ⊢
  omega

/-! ### Counters and counts -/

/-- A value that fits its register is stored whole. -/
theorem toNat_ofNat_of_lt {w x : Nat} (h : x < 2 ^ w) : (BitVec.ofNat w x).toNat = x :=
  (BitVec.toNat_ofNat x w).trans (Nat.mod_eq_of_lt h)

/-- A counter that cannot wrap moves by the group width (R48, R54). -/
theorem toNat_add_width (x : Word) (n : BitVec 6) (h : x.toNat + n.toNat < 2 ^ 32) :
    (x + n.setWidth 32).toNat = x.toNat + n.toNat := by
  have hwidth : (n.setWidth 32).toNat = n.toNat := BitVec.toNat_setWidth_of_le (by decide)
  rw [BitVec.toNat_add_of_lt (hwidth.symm ▸ h), hwidth]

/-- Where a position is a count times the width, moving it by the width moves the count by one (R48, R54). -/
theorem toNat_add_width_eq_mul {x count : Word} {n : BitVec 6} (hn : 1 ≤ n.toNat)
    (hx : x.toNat = count.toNat * n.toNat) (h : x.toNat + n.toNat < 2 ^ 32) :
    (x + n.setWidth 32).toNat = (count + 1).toNat * n.toNat := by
  have hle : count.toNat ≤ x.toNat := hx ▸ Nat.le_mul_of_pos_right _ hn
  have hcount : (count + 1).toNat = count.toNat + 1 :=
    BitVec.toNat_add_of_lt (show count.toNat + 1 < 2 ^ 32 by omega)
  rw [toNat_add_width x n h, hcount, hx, Nat.succ_mul]

theorem remain_lt {n : Nat} (L : Nat) (hn : 1 ≤ n) : remain L n < n := by
  have hmod : 8 * L % n < n := Nat.mod_lt _ hn
  unfold remain
  split <;> omega

@[simp] theorem length_pushBytes (s : State) : (pushBytes s).length = readyBytes s := by
  simp [pushBytes]

/-! ### Sound states -/

/-- `t` keeps the laws that `s` obeys, and its configuration. -/
abbrev KeepsLaws (s t : State) : Prop := StateSound t ∧ t.cfg = s.cfg

/-- A state whose registers are all 0 obeys every law as soon as its configuration and memories do (R62). -/
theorem sound_of_registersZero {t : State} (hz : RegistersZero t) (hv : t.cfg.Valid) (hm : MemoriesSound t) :
    StateSound t := by
  obtain ⟨⟨hsrcLen, hdstLen, -⟩, ⟨huActive, huValid, hpActive, -⟩, ⟨herr, hparam, hvalue, hmin, hmax⟩, -,
    ⟨-, -, -, hrb, -⟩⟩ := hz
  refine ⟨hv, hm, ?_, ?_, ?_, ?_, ?_⟩
  · simp [LengthsSound, hsrcLen, hdstLen]
  · simp [OutputWritten, hdstLen]
  · simp [OutcomeSound, herr, hparam, hvalue, hmin, hmax]
  · simp [UnpackerSound, huActive, huValid]
  · simp [PackerSound, hpActive, hrb]

theorem clearRegisters_zero (s : State) : RegistersZero (clearRegisters s) := by
  simp [RegistersZero]

theorem hardReset_zero (s : State) : RegistersZero (hardReset s) := by
  simp [RegistersZero]

theorem clearRegisters_keepsLaws {s : State} (hs : StateSound s) : KeepsLaws s (clearRegisters s) := by
  obtain ⟨hv, hm, -⟩ := hs
  exact ⟨sound_of_registersZero (clearRegisters_zero s) hv hm, rfl⟩

theorem hardReset_keepsLaws {s : State} (hs : StateSound s) : KeepsLaws s (hardReset s) := by
  obtain ⟨hv, -⟩ := hs
  exact ⟨sound_of_registersZero (hardReset_zero s) hv (by simp [MemoriesSound]), rfl⟩

/-! ### Outcomes of a command -/

/-- The information of an error fits ERR_PARAM's law: CONFIG names parameter 0, 1 or 2 (R42). -/
def CommandError.Legal : CommandError → Prop
  | .config param _ _ _ => param.toNat ≤ 2
  | .illegal | .state | .range | .capacity => True

theorem widthError_legal (n greatest : Nat) : (widthError n greatest).Legal := by
  change (1#8).toNat ≤ 2
  decide

theorem remainError_legal (rem n : Nat) : (remainError rem n).Legal := by
  change (2#8).toNat ≤ 2
  decide

/-- A report replaces the outcome registers alone. -/
theorem reported_keepsLaws {s : State} (hs : StateSound s) {code : BitVec 4} {param : BitVec 8}
    {value least greatest : Word} (h : OutcomeSound (reported s code param value least greatest)) :
    KeepsLaws s (reported s code param value least greatest) := by
  obtain ⟨hv, hm, hl, hw, -, hu, hp⟩ := hs
  exact ⟨⟨hv, hm, hl, hw, h, hu, hp⟩, rfl⟩

theorem raiseError_keepsLaws {s : State} (hs : StateSound s) {e : CommandError} (he : e.Legal) :
    KeepsLaws s (raiseError e s) := by
  rw [raiseError_eq]
  cases e with
  | config param value least greatest => exact reported_keepsLaws hs ⟨by simp, he, by simp⟩
  | illegal | state | range | capacity => exact reported_keepsLaws hs (by simp [OutcomeSound])

theorem succeeded_keepsLaws {s u : State} (hu : KeepsLaws s u) : KeepsLaws s (succeeded u) := by
  obtain ⟨⟨hv, hm, hl, hw, -, hu, hp⟩, hc⟩ := hu
  exact ⟨⟨hv, hm, hl, hw, by simp [OutcomeSound], hu, hp⟩, hc⟩

/-- What a command's result must be for its outcome to keep the laws: a legal error, or writes that keep them. -/
def ResultLegal (s : State) : Except CommandError State → Prop
  | .error e => e.Legal
  | .ok u => KeepsLaws s u

theorem finish_keepsLaws {s t : State} {r : Except CommandError State} (hs : StateSound s) (hr : ResultLegal s r)
    (h : finish s r = .next t) : KeepsLaws s t := by
  rcases finish_cases h with ⟨e, rfl, rfl⟩ | ⟨u, rfl, rfl⟩
  · exact raiseError_keepsLaws hs hr
  · exact succeeded_keepsLaws hr

/-! ### What is written of the output -/

/-- Consecutive bytes put right after the written part of a memory extend it. -/
theorem writeAll_extends_written {m : Memory} {n : Nat} (h : ∀ i < n, (Memory.find m i).isSome = true)
    (bs : List Byte) : ∀ i < n + bs.length, (Memory.find (Memory.writeAll m n bs) i).isSome = true := by
  intro i hi
  rw [find_writeAll]
  by_cases hn : n ≤ i
  · rw [if_pos ⟨hn, hi⟩, List.getElem?_eq_getElem (by omega)]
    rfl
  · rw [if_neg (by omega)]
    exact h i (by omega)

theorem packFinal_le (s : State) : packFinal s ≤ s.pBits.toNat / 8 + 1 := by
  unfold packFinal finalLength ceilDiv8
  omega

/-- The memory after PACK_END's flush (R232): the remainder byte is the only one that can be new. -/
def flushed (s : State) : Memory :=
  if s.dstLen.toNat < packFinal s then Memory.write s.dst s.dstLen.toNat s.pRByte else s.dst

/-- PACK_END with its write to DST named. -/
theorem execPackEnd_eq (s : State) :
    execPackEnd s = finish s
      (if s.pActive = false then .error .state
       else if s.cfg.dstBytes < packFinal s then .error .capacity
       else .ok { s with
        dst := flushed s, dstLen := BitVec.ofNat 25 (packFinal s)
        pRByte := 0, pRLen := 0, pActive := false, pDone := true }) := rfl

theorem flushed_wf {s : State} (h : Memory.wf s.dst) : Memory.wf (flushed s) := by
  unfold flushed
  split
  · exact write_wf h _ _
  · exact h

theorem flushed_bound {s : State} {n : Nat} (h : ∀ c ∈ s.dst, c.1 < n) (hf : packFinal s ≤ n) :
    ∀ c ∈ flushed s, c.1 < n := by
  unfold flushed
  split
  · exact write_bound h _ (by omega)
  · exact h

theorem flushed_written {s : State} (h : OutputWritten s) (hf : packFinal s ≤ s.dstLen.toNat + 1) :
    ∀ i < packFinal s, (Memory.find (flushed s) i).isSome = true := by
  intro i hi
  unfold flushed
  split
  · rw [find_write]
    split
    · rfl
    · exact h i (by omega)
  · exact h i (by omega)

/-! ### Counters of a sound state stay below their width -/

theorem uPos_lt {s : State} (hs : StateSound s) (ha : s.uActive = true) : s.uPos.toNat < 2 ^ 28 := by
  obtain ⟨⟨-, hcap, -⟩, -, ⟨hsrc, -⟩, -, -, ⟨-, hu⟩, -⟩ := hs
  obtain ⟨-, -, -, -, -, hpos, hzero⟩ := hu ha
  have hn : s.uN.toNat < 2 ^ 6 := s.uN.isLt
  omega

theorem pBits_lt {s : State} (hs : StateSound s) (ha : s.pActive = true) :
    s.pBits.toNat < 8 * s.cfg.dstBytes + 8 := by
  obtain ⟨-, -, ⟨-, hdst⟩, -, -, -, ⟨-, hp⟩⟩ := hs
  obtain ⟨-, -, -, -, -, -, hlen, -⟩ := hp ha
  omega

/-! ### The commands that open no session -/

/-- The result registers obey no law (R33). -/
theorem setR32_keepsLaws {s u : State} (v : Word) (hu : KeepsLaws s u) : KeepsLaws s (setR32 v u) := hu

theorem setR64_keepsLaws {s u : State} (v : DWord) (hu : KeepsLaws s u) : KeepsLaws s (setR64 v u) := hu

theorem execWindow_keepsLaws {s t : State} {off : BitVec 24} (hs : StateSound s)
    (h : execWindow off s = .next t) : KeepsLaws s t := by
  refine finish_keepsLaws hs ?_ h
  split
  · trivial
  · exact setR64_keepsLaws _ ⟨hs, rfl⟩

theorem execSliceExtract_keepsLaws {s t : State} {n : BitVec 6} {off3 : BitVec 3} (hs : StateSound s)
    (h : execSliceExtract n off3 s = .next t) : KeepsLaws s t := by
  refine finish_keepsLaws hs ?_ h
  split
  · exact widthError_legal n.toNat 32
  · exact setR32_keepsLaws _ ⟨hs, rfl⟩

theorem execSliceMerge_keepsLaws {s t : State} {n : BitVec 6} {rl : BitVec 3} {rb : BitVec 8} (hs : StateSound s)
    (h : execSliceMerge n rl rb s = .next t) : KeepsLaws s t := by
  refine finish_keepsLaws hs ?_ h
  split
  · exact widthError_legal n.toNat 32
  · exact setR64_keepsLaws _ ⟨hs, rfl⟩

/-! ### The unpacker's commands -/

theorem execUnpackBegin_keepsLaws {s t : State} {n : BitVec 6} {wc : BitVec 2} (hs : StateSound s)
    (h : execUnpackBegin n wc s = .next t) : KeepsLaws s t := by
  refine finish_keepsLaws hs ?_ h
  split
  · trivial
  split
  · exact widthError_legal n.toNat (greatestWidth wc)
  · rename_i hwc hn
    obtain ⟨hv, hm, hl, hw, ho, -, hp⟩ := hs
    obtain ⟨hn1, hnmax⟩ : 1 ≤ n.toNat ∧ n.toNat ≤ greatestWidth wc := by omega
    have hremain : remain s.srcLen.toNat n.toNat < n.toNat := remain_lt _ hn1
    refine ⟨⟨hv, hm, hl, hw, ho, ⟨by simp, fun _ => ⟨hwc, hn1, hnmax, ?_, ?_, ?_, ?_⟩⟩, hp⟩, rfl⟩
    · exact toNat_ofNat_of_lt (Nat.lt_trans hremain n.isLt)
    all_goals simp

theorem execUnpackNext_keepsLaws {s t : State} (hs : StateSound s) (h : execUnpackNext s = .next t) :
    KeepsLaws s t := by
  refine finish_keepsLaws hs ?_ h
  split
  · trivial
  rename_i hactive
  have ha : s.uActive = true := by simpa using hactive
  have hposlt := uPos_lt hs ha
  obtain ⟨hv, hm, hl, hw, ho, ⟨-, hu⟩, hp⟩ := hs
  obtain ⟨hwc, hn1, hnmax, hremain, hpos, hbound, hzero⟩ := hu ha
  split
  · exact setR32_keepsLaws _ ⟨⟨hv, hm, hl, hw, ho, ⟨fun _ => ha, hu⟩, hp⟩, rfl⟩
  · rename_i hleft
    have hroom : s.uPos.toNat + s.uN.toNat < 2 ^ 32 := by omega
    have hpos' := toNat_add_width s.uPos s.uN hroom
    refine setR32_keepsLaws _ ⟨⟨hv, hm, hl, hw, ho, ⟨fun _ => ha, fun _ => ?_⟩, hp⟩, rfl⟩
    refine ⟨hwc, hn1, hnmax, hremain, toNat_add_width_eq_mul hn1 hpos hroom, fun _ => ?_, fun hempty => ?_⟩
    · change (s.uPos + s.uN.setWidth 32).toNat ≤ 8 * s.srcLen.toNat + s.uN.toNat - 1
      omega
    · change s.srcLen.toNat = 0 at hempty
      omega

theorem execUnpackEnd_keepsLaws {s t : State} (hs : StateSound s) (h : execUnpackEnd s = .next t) :
    KeepsLaws s t := by
  refine finish_keepsLaws hs ?_ h
  split
  · trivial
  · obtain ⟨hv, hm, hl, hw, ho, -, hp⟩ := hs
    exact ⟨⟨hv, hm, hl, hw, ho, ⟨by simp, by simp⟩, hp⟩, rfl⟩

/-! ### The packer's commands -/

theorem execPackBegin_keepsLaws {s t : State} {n rem : BitVec 6} {rm : Bool} (hs : StateSound s)
    (h : execPackBegin n rem rm s = .next t) : KeepsLaws s t := by
  refine finish_keepsLaws hs ?_ h
  split
  · trivial
  split
  · exact widthError_legal n.toNat 32
  split
  · exact remainError_legal rem.toNat n.toNat
  · rename_i hform hn hrem
    obtain ⟨hv, hm, ⟨hsrc, -⟩, -, ho, hu, -⟩ := hs
    obtain ⟨hn1, hn32⟩ : 1 ≤ n.toNat ∧ n.toNat ≤ 32 := by omega
    have hrm : rm = true → rem.toNat < n.toNat := fun hrm => Nat.lt_of_not_le fun hle => hrem ⟨hrm, hle⟩
    have hplain : rm = false → rem = 0 := fun hrm => not_not.mp fun hne => hform ⟨hrm, hne⟩
    exact ⟨⟨hv, hm, ⟨hsrc, Nat.zero_le _⟩, by simp [OutputWritten], ho, hu, by simp,
      fun _ => ⟨rfl, hn1, hn32, hrm, hplain, by simp, by simp, by simp⟩⟩, rfl⟩

theorem execPackPush_keepsLaws {s t : State} (hs : StateSound s) (h : execPackPush s = .next t) : KeepsLaws s t := by
  refine finish_keepsLaws hs ?_ h
  split
  · trivial
  split
  · trivial
  rename_i hactive hfits
  have ha : s.pActive = true := by simpa using hactive
  have hbitslt := pBits_lt hs ha
  obtain ⟨hv, ⟨hsrcwf, hdstwf, hsrcb, hdstb⟩, ⟨hsrc, hdst⟩, hw, ho, hu, -, hp⟩ := hs
  obtain ⟨hdone, hn1, hn32, hrm, hplain, hbits, hlen, hrlen⟩ := hp ha
  have ⟨_, _, _, hcap⟩ := hv
  have hfits : s.dstLen.toNat + readyBytes s ≤ s.cfg.dstBytes := Nat.le_of_not_lt hfits
  have hlen' : (BitVec.ofNat 25 (s.dstLen.toNat + readyBytes s)).toNat = s.dstLen.toNat + readyBytes s :=
    toNat_ofNat_of_lt (by omega)
  have hrlen' : (BitVec.ofNat 3 (readyBits s % 8)).toNat = readyBits s % 8 := toNat_ofNat_of_lt (by omega)
  have hroom : s.pBits.toNat + s.pN.toNat < 2 ^ 32 := by omega
  have hbits' := toNat_add_width s.pBits s.pN hroom
  refine ⟨⟨hv, ⟨hsrcwf, writeAll_wf hdstwf _ _, hsrcb, writeAll_bound hdstb _ ?inside⟩, ⟨hsrc, hlen'.trans_le hfits⟩,
    ?written, ho, hu, ?leftAligned,
    fun _ => ⟨hdone, hn1, hn32, hrm, hplain, toNat_add_width_eq_mul hn1 hbits hroom, ?wholeBytes, ?rest⟩⟩, rfl⟩
  case inside => rwa [length_pushBytes]
  case written =>
    intro i hi
    exact writeAll_extends_written hw _ i (by rw [length_pushBytes]; exact hlen' ▸ hi)
  case leftAligned =>
    change _ &&& ~~~(hmask8 (BitVec.ofNat 3 (readyBits s % 8)).toNat) = 0
    rw [hrlen']
    exact pushRemainder_leftAligned hn32
  case wholeBytes =>
    refine hlen'.trans ?_
    rw [hbits', readyBytes, readyBits]
    omega
  case rest =>
    refine hrlen'.trans ?_
    rw [hbits', readyBits]
    omega

theorem execPackEnd_keepsLaws {s t : State} (hs : StateSound s) (h : execPackEnd s = .next t) : KeepsLaws s t := by
  rw [execPackEnd_eq] at h
  refine finish_keepsLaws hs ?_ h
  split
  · trivial
  split
  · trivial
  rename_i hactive hfits
  have ha : s.pActive = true := by simpa using hactive
  obtain ⟨hv, ⟨hsrcwf, hdstwf, hsrcb, hdstb⟩, ⟨hsrc, -⟩, hw, ho, hu, -, hp⟩ := hs
  obtain ⟨-, -, -, -, -, -, hlen, -⟩ := hp ha
  have ⟨_, _, _, hcap⟩ := hv
  have hfinal : packFinal s ≤ s.cfg.dstBytes := Nat.le_of_not_lt hfits
  have hlen' : (BitVec.ofNat 25 (packFinal s)).toNat = packFinal s := toNat_ofNat_of_lt (by omega)
  have hwritten : ∀ i < packFinal s, (Memory.find (flushed s) i).isSome = true :=
    flushed_written hw (hlen ▸ packFinal_le s)
  exact ⟨⟨hv, ⟨hsrcwf, flushed_wf hdstwf, hsrcb, flushed_bound hdstb hfinal⟩, ⟨hsrc, hlen'.trans_le hfinal⟩,
    fun i hi => hwritten i (hlen' ▸ hi), ho, hu, by simp, by simp⟩, rfl⟩

/-! ### Every command, every input -/

theorem exec_keepsLaws {i : Instr} {s t : State} (hs : StateSound s) (h : exec i s = .next t) : KeepsLaws s t := by
  cases i with
  | nop => exact finish_keepsLaws hs (r := .ok s) ⟨hs, rfl⟩ h
  | softReset => exact finish_keepsLaws hs (r := .ok (clearRegisters s)) (clearRegisters_keepsLaws hs) h
  | window off => exact execWindow_keepsLaws hs h
  | sliceExtract n off3 => exact execSliceExtract_keepsLaws hs h
  | sliceMerge n rl rb => exact execSliceMerge_keepsLaws hs h
  | unpackBegin n wc => exact execUnpackBegin_keepsLaws hs h
  | unpackNext => exact execUnpackNext_keepsLaws hs h
  | unpackEnd => exact execUnpackEnd_keepsLaws hs h
  | packBegin n rem rm => exact execPackBegin_keepsLaws hs h
  | packPush => exact execPackPush_keepsLaws hs h
  | packEnd => exact execPackEnd_keepsLaws hs h

theorem execCommand_keepsLaws {w : Word} {s t : State} (hs : StateSound s) (h : execCommand w s = .next t) :
    KeepsLaws s t := by
  rcases execCommand_cases w s with ⟨_, _, heq⟩ | ⟨i, _, heq⟩
  · obtain rfl : reported s 2 0 0 0 0 = t := by simpa [heq] using h
    exact reported_keepsLaws hs (by simp [OutcomeSound])
  · exact exec_keepsLaws hs (heq ▸ h)

theorem respond_keepsLaws {s u : State} (r : Response) (hu : KeepsLaws s u) : KeepsLaws s (respond r u) := hu

theorem writeStatus_keepsLaws {s : State} (d : Word) (hs : StateSound s) : KeepsLaws s (writeStatus d s) := by
  unfold writeStatus
  split <;> exact ⟨hs, rfl⟩

/-- The host loads SRC_LEN only outside an unpack session, where U_REMAIN and U_POS obey no law (R44). -/
theorem writeSrcLen_keepsLaws {s : State} {d : Word} (hs : StateSound s) (hidle : s.uActive = false)
    (hd : d.toNat ≤ s.cfg.srcBytes) : KeepsLaws s { s with srcLen := d.setWidth 25 } := by
  obtain ⟨hv, hm, ⟨-, hdst⟩, hw, ho, ⟨hvalid, -⟩, hp⟩ := hs
  have ⟨_, hcap, _⟩ := hv
  have hlen : (d.setWidth 25).toNat = d.toNat := by
    rw [BitVec.toNat_setWidth]
    exact Nat.mod_eq_of_lt (by omega)
  exact ⟨⟨hv, hm, ⟨hlen.trans_le hd, hdst⟩, hw, ho, ⟨hvalid, by simp [hidle]⟩, hp⟩, rfl⟩

theorem writeSrc_keepsLaws {s : State} {i : Nat} (b : Byte) (hs : StateSound s) (hi : i < s.cfg.srcBytes) :
    KeepsLaws s { s with src := Memory.write s.src i b } := by
  obtain ⟨hv, ⟨hsrcwf, hdstwf, hsrcb, hdstb⟩, hl, hw, ho, hu, hp⟩ := hs
  exact ⟨⟨hv, ⟨write_wf hsrcwf i b, hdstwf, write_bound hsrcb b hi, hdstb⟩, hl, hw, ho, hu, hp⟩, rfl⟩

theorem hostWrite_keepsLaws {addr : Word} {data : BusData} {s t : State} (hs : StateSound s)
    (h : hostWrite addr data s = .next t) : KeepsLaws s t := by
  rcases hostWrite_cases h with ⟨d, u, -, -, hu, rfl⟩ | ⟨d, rfl⟩ | ⟨d, rfl⟩ | ⟨d, rfl⟩ | ⟨d, hidle, hd, rfl⟩ |
    ⟨i, b, -, hi, rfl⟩ | rfl
  · exact respond_keepsLaws _ (execCommand_keepsLaws hs hu)
  · exact respond_keepsLaws _ (writeStatus_keepsLaws d hs)
  · exact respond_keepsLaws _ ⟨hs, rfl⟩
  · exact respond_keepsLaws _ ⟨hs, rfl⟩
  · exact respond_keepsLaws _ (writeSrcLen_keepsLaws hs hidle hd)
  · exact respond_keepsLaws _ (writeSrc_keepsLaws b hs hi)
  · exact respond_keepsLaws _ ⟨hs, rfl⟩

/-- Settles O48, by the cases of a step: idle, hard reset, read, write. -/
theorem everyStepKeepsTheRegisterLaws : Obligations.EveryStepKeepsTheRegisterLaws := by
  unfold Obligations.EveryStepKeepsTheRegisterLaws
  intro s t hs h
  rcases step_cases h with ⟨-, rfl⟩ | ⟨rest, -, rfl⟩ | ⟨rest, addr, width, -, rfl⟩ | ⟨rest, addr, data, -, hwrite⟩
  · exact ⟨hs, rfl⟩
  · exact hardReset_keepsLaws (s := taken rest s) hs
  · exact ⟨hs, rfl⟩
  · exact hostWrite_keepsLaws (s := taken rest s) hs hwrite

end Sys2Proof.Machine
end

section
/-! Proofs of the family 20_memory.md: the byte reads of the buffers (R78), and the refusal of unmapped and ill-formed
accesses (R74, R75). For the refusals the address map is inverted once: an address that leads to a target lies in
that target's region, so a refused access never meets a target of its own width. -/

namespace Sys2Proof.Machine

/-! ### Byte reads of SRC and DST (R76, R78) -/

theorem hostRead_src {s : State} {addr : Word} {i : Nat} (h : targetOf s.cfg addr = some (.src i)) :
    hostRead addr .one s = .okRead (.byte (srcByte s i)) := by
  simp only [hostRead, h]

theorem hostRead_dst {s : State} {addr : Word} {i : Nat} (h : targetOf s.cfg addr = some (.dst i)) :
    hostRead addr .one s = .okRead (.byte (dstVisible s i)) := by
  simp only [hostRead, h]

theorem dstVisible_of_lt {s : State} {i : Nat} (h : i < s.dstLen.toNat) : dstVisible s i = dstByte s i := if_pos h

theorem dstVisible_of_le {s : State} {i : Nat} (h : s.dstLen.toNat ≤ i) : dstVisible s i = 0 :=
  if_neg (Nat.not_lt.mpr h)

/-- Settles O14: each address leads to its byte, and what DST shows depends on the side of DST_LEN. -/
theorem bufferReadsGiveTheirBytes : Obligations.BufferReadsGiveTheirBytes := by
  unfold Obligations.BufferReadsGiveTheirBytes
  intro s i ⟨_, hsrc, _, hdst⟩
  refine ⟨fun hi => hostRead_src (targetOf_srcOffset hsrc hi), fun hi hlen => ?_, fun hi hlen => ?_⟩
  · rw [hostRead_dst (targetOf_dstOffset hdst hi), dstVisible_of_lt hlen]
  · rw [hostRead_dst (targetOf_dstOffset hdst hi), dstVisible_of_le hlen]

/-! ### Refused accesses (R74, R75) -/

/-- The only width by which a target is accessed (R75). -/
def Target.width : Target → Width
  | .register _ => .four
  | .src _ | .dst _ => .one

/-- Where the target of an address lies: a register at an aligned offset below 0x060 (R35), a buffer byte in its
region and below the capacity (R73). -/
theorem targetOf_cases {c : Config} {addr : Word} {t : Target} (h : targetOf c addr = some t) :
    (t.width = .four ∧ addr.toNat < 0x060 ∧ addr.toNat % 4 = 0) ∨
    (t.width = .one ∧ 0x01000000 ≤ addr.toNat ∧ addr.toNat < 0x02000000 ∧ addr.toNat - 0x01000000 < c.srcBytes) ∨
    (t.width = .one ∧ 0x02000000 ≤ addr.toNat ∧ addr.toNat < 0x03000000 ∧ addr.toNat - 0x02000000 < c.dstBytes) := by
  unfold targetOf srcBase dstBase at h
  dsimp only at h
  split at h
  · obtain ⟨r, hr, rfl⟩ := Option.map_eq_some_iff.mp h
    have hlisted : ¬ (0x060 ≤ addr.toNat ∨ addr.toNat % 4 ≠ 0) := by
      intro hout
      simp [registerAt_none hout] at hr
    exact .inl ⟨rfl, by omega, by omega⟩
  · split at h
    · obtain ⟨hcap, ⟨⟩⟩ := Option.ite_none_right_eq_some.mp h
      exact .inr (.inl ⟨rfl, by omega, by omega, hcap⟩)
    · split at h
      · obtain ⟨hcap, ⟨⟩⟩ := Option.ite_none_right_eq_some.mp h
        exact .inr (.inr ⟨rfl, by omega, by omega, hcap⟩)
      · cases h

/-- A refused access never meets a target of its own width. -/
theorem width_ne_of_accessRefused {c : Config} {addr : Word} {width : Width} (hr : AccessRefused c addr width)
    {t : Target} (ht : targetOf c addr = some t) : t.width ≠ width := by
  rintro rfl
  unfold AccessRefused at hr
  rcases targetOf_cases ht with ⟨hw, hbelow, haligned⟩ | ⟨hw, hlow, hhigh, hcap⟩ | ⟨hw, hlow, hhigh, hcap⟩ <;>
    simp only [hw, ne_eq, not_true_eq_false, or_false] at hr <;> omega

theorem hostRead_refused {addr : Word} {width : Width} {s : State} (h : AccessRefused s.cfg addr width) :
    hostRead addr width s = .busErr := by
  unfold hostRead
  split
  · next ht => exact absurd rfl (width_ne_of_accessRefused h ht)
  · next ht => exact absurd rfl (width_ne_of_accessRefused h ht)
  · next ht => exact absurd rfl (width_ne_of_accessRefused h ht)
  · rfl

theorem hostWrite_refused {addr : Word} {data : BusData} {s : State} (h : AccessRefused s.cfg addr (dataWidth data)) :
    hostWrite addr data s = refuse s := by
  unfold hostWrite
  split
  · next ht => exact absurd rfl (width_ne_of_accessRefused h ht)
  · next ht => exact absurd rfl (width_ne_of_accessRefused h ht)
  · rfl

theorem step_hostRead {s : State} {rest : List Input} {addr : Word} {width : Width}
    (h : s.inputs = .transaction (.hostRead addr width) :: rest) :
    step s = .next (answered s rest (hostRead addr width s)) := by
  simp only [step, h]
  rfl

theorem step_hostWrite {s : State} {rest : List Input} {addr : Word} {data : BusData}
    (h : s.inputs = .transaction (.hostWrite addr data) :: rest) :
    step s = hostWrite addr data (taken rest s) := by
  simp only [step, h, takeInput, transact]

/-- Settles O20: neither a refused read nor a refused write meets a target of its width, so both are answered BUSERR. -/
theorem unmappedAndIllFormedAccessesAreRefused : Obligations.UnmappedAndIllFormedAccessesAreRefused := by
  unfold Obligations.UnmappedAndIllFormedAccessesAreRefused
  refine fun s rest addr => ⟨fun width hr h => ?_, fun data hr h => ?_⟩
  · rw [step_hostRead h, hostRead_refused hr]
  · rw [step_hostWrite h, hostWrite_refused (s := taken rest s) hr]
    rfl

end Sys2Proof.Machine
end

section
/-! Proofs of the family 30_encoding.md: a word is illegal exactly when the decoder refuses it (R111). The points of
R111 are masks of the word and the decoder reads fields, so a mask of a field is first tied to the field; then each
format's refusal is stated by its masks. -/

namespace Sys2Proof.Machine

/-! ### A field of a word, and the mask over it (R100) -/

/-- The word that holds a field's value at bit `p`, and 0 elsewhere. -/
def fieldAt (p : Nat) {n : Nat} (v : BitVec n) : Word := v.setWidth 32 <<< p

/-- A word under the mask of a field is that field alone. -/
theorem and_fieldAt_allOnes (w : Word) (p n : Nat) :
    w &&& fieldAt p (BitVec.allOnes n) = fieldAt p (w.extractLsb' p n) := by
  apply BitVec.eq_of_getLsbD_eq
  intro i hi
  simp only [fieldAt, BitVec.getLsbD_and, BitVec.getLsbD_shiftLeft, BitVec.getLsbD_setWidth, BitVec.getLsbD_allOnes,
    BitVec.getLsbD_extractLsb']
  by_cases hp : i < p
  · simp [hp]
  · rw [Nat.add_sub_cancel' (Nat.le_of_not_lt hp)]
    ac_rfl

theorem extractLsb'_fieldAt {p n : Nat} (h : p + n ≤ 32) (v : BitVec n) : (fieldAt p v).extractLsb' p n = v := by
  apply BitVec.eq_of_getLsbD_eq
  intro i hi
  have hbit : p + i < 32 := by omega
  simp [fieldAt, hi, hbit]

/-- What a mask over a field tells about the field. -/
theorem and_fieldAt_eq_iff {p n : Nat} (h : p + n ≤ 32) (w : Word) (v : BitVec n) :
    w &&& fieldAt p (BitVec.allOnes n) = fieldAt p v ↔ w.extractLsb' p n = v := by
  rw [and_fieldAt_allOnes]
  constructor
  · intro heq
    rw [← extractLsb'_fieldAt h (w.extractLsb' p n), heq, extractLsb'_fieldAt h]
  · rintro rfl
    rfl

/-- A mask of zero bits: the field is 0. -/
theorem and_fieldAt_eq_zero_iff {p n : Nat} (h : p + n ≤ 32) (w : Word) :
    w &&& fieldAt p (BitVec.allOnes n) = 0 ↔ w.extractLsb' p n = 0#n := by
  rw [← and_fieldAt_eq_iff h]
  simp [fieldAt]

theorem and_or_eq_zero_iff (w a b : Word) : w &&& (a ||| b) = 0 ↔ w &&& a = 0 ∧ w &&& b = 0 := by
  rw [BitVec.and_or_distrib_left]
  exact BitVec.or_eq_zero_iff

/-- A mask of one bit. -/
theorem and_twoPow_eq_zero_iff {p : Nat} (h : p < 32) (w : Word) :
    w &&& BitVec.twoPow 32 p = 0 ↔ w.getLsbD p = false := by
  have hne : BitVec.twoPow 32 p ≠ 0#32 := fun heq => by
    simpa [h] using congrArg (·.getLsbD p) heq
  rw [BitVec.and_twoPow]
  cases w.getLsbD p <;> simp [hne]

/-! ### The decoder's refusals (R111) -/

/-- The decoder refuses the word. -/
def Refused (r : Except IllegalReason Instr) : Prop := ∃ why, r = .error why

@[simp] theorem refused_error (why : IllegalReason) : Refused (.error why) := ⟨why, rfl⟩

@[simp] theorem not_refused_ok (i : Instr) : ¬ Refused (.ok i) := nofun

/-- A check refuses the word, or leaves it to what follows. -/
theorem refused_check_iff (c : Prop) [Decidable c] (why : IllegalReason) (r : Except IllegalReason Instr) :
    Refused (if c then .error why else r) ↔ c ∨ Refused r := by
  split <;> simp [*]

/-- Format Z (R102). -/
theorem refused_decodeZ_iff (w : Word) (i : Instr) : Refused (decodeZ w i) ↔ w &&& 0x00FFFFFF#32 ≠ 0 := by
  rw [show 0x00FFFFFF#32 = fieldAt 0 (BitVec.allOnes 24) by decide, Ne, and_fieldAt_eq_zero_iff (by decide)]
  unfold decodeZ
  split <;> simp [*]

/-- Format SX (R107). -/
theorem refused_decodeSX_iff (w : Word) : Refused (decodeSX w) ↔ w &&& 0x00FFF8C0#32 ≠ 0 := by
  rw [show 0x00FFF8C0#32 = fieldAt 6 (BitVec.allOnes 2) ||| fieldAt 11 (BitVec.allOnes 13) by decide, Ne,
    and_or_eq_zero_iff, and_fieldAt_eq_zero_iff (by decide), and_fieldAt_eq_zero_iff (by decide)]
  simp only [decodeSX, refused_check_iff, not_refused_ok, or_false, not_and_or]

/-- Format SM (R108). -/
theorem refused_decodeSM_iff (w : Word) : Refused (decodeSM w) ↔ w &&& 0x0000F8C0#32 ≠ 0 := by
  rw [show 0x0000F8C0#32 = fieldAt 6 (BitVec.allOnes 2) ||| fieldAt 11 (BitVec.allOnes 5) by decide, Ne,
    and_or_eq_zero_iff, and_fieldAt_eq_zero_iff (by decide), and_fieldAt_eq_zero_iff (by decide)]
  simp only [decodeSM, refused_check_iff, not_refused_ok, or_false, not_and_or]

/-- Format U (R104), with the reserved width code 3 (R106). -/
theorem refused_decodeU_iff (w : Word) :
    Refused (decodeU w) ↔ w &&& 0x00FFFCC0#32 ≠ 0 ∨ w &&& 0x00000300#32 = 0x00000300#32 := by
  have hreserved : w &&& 0x00FFFCC0#32 = 0 ↔ w.extractLsb' 6 2 = 0#2 ∧ w.extractLsb' 10 14 = 0#14 := by
    rw [show 0x00FFFCC0#32 = fieldAt 6 (BitVec.allOnes 2) ||| fieldAt 10 (BitVec.allOnes 14) by decide,
      and_or_eq_zero_iff, and_fieldAt_eq_zero_iff (by decide), and_fieldAt_eq_zero_iff (by decide)]
  have hwidthCode : w &&& 0x00000300#32 = 0x00000300#32 ↔ w.extractLsb' 8 2 = 3#2 := by
    rw [show 0x00000300#32 = fieldAt 8 (BitVec.allOnes 2) by decide]
    exact and_fieldAt_eq_iff (by decide) w (BitVec.allOnes 2)
  rw [hwidthCode, Ne, hreserved, not_and_or]
  simp only [decodeU, refused_check_iff, not_refused_ok, or_false, or_assoc]

/-- Format P (R105), with REM != 0 without RM (R111.4). -/
theorem refused_decodeP_iff (w : Word) :
    Refused (decodeP w) ↔
      w &&& 0x00FEC0C0#32 ≠ 0 ∨ (w &&& 0x00010000#32 = 0 ∧ w &&& 0x00003F00#32 ≠ 0) := by
  have hreserved : w &&& 0x00FEC0C0#32 = 0 ↔
      w.extractLsb' 6 2 = 0#2 ∧ w.extractLsb' 14 2 = 0#2 ∧ w.extractLsb' 17 7 = 0#7 := by
    rw [show 0x00FEC0C0#32 = fieldAt 6 (BitVec.allOnes 2) |||
        (fieldAt 14 (BitVec.allOnes 2) ||| fieldAt 17 (BitVec.allOnes 7)) by decide,
      and_or_eq_zero_iff, and_or_eq_zero_iff, and_fieldAt_eq_zero_iff (by decide), and_fieldAt_eq_zero_iff (by decide),
      and_fieldAt_eq_zero_iff (by decide)]
  have hremain : w &&& 0x00003F00#32 = 0 ↔ w.extractLsb' 8 6 = 0#6 := by
    rw [show 0x00003F00#32 = fieldAt 8 (BitVec.allOnes 6) by decide, and_fieldAt_eq_zero_iff (by decide)]
  have hform : w &&& 0x00010000#32 = 0 ↔ w.getLsbD 16 = false := by
    rw [show 0x00010000#32 = BitVec.twoPow 32 16 by decide, and_twoPow_eq_zero_iff (by decide)]
  rw [hform, Ne, hreserved, Ne, hremain, not_and_or, not_and_or]
  simp only [decodeP, refused_check_iff, not_refused_ok, or_false, or_assoc]

/-- A row of the opcode map: what it decides, and what the rows after it decide. -/
theorem refused_row_iff {c p : Prop} [Decidable c] {a b : Except IllegalReason Instr} (ha : c → (Refused a ↔ p))
    (hb : ¬ c → (Refused b ↔ p)) : Refused (if c then a else b) ↔ p := by
  split
  · next h => exact ha h
  · next h => exact hb h

/-- R111: a word is illegal exactly when the decoder refuses it, opcode by opcode of the map of R110. -/
theorem refused_decode_iff (w : Word) : Refused (decode w) ↔ IllegalWord w := by
  unfold decode IllegalWord OpcodeZ
  refine refused_row_iff (fun h00 => by simp [h00, refused_decodeZ_iff]) fun h00 => ?_
  refine refused_row_iff (fun h01 => by simp [h01, refused_decodeZ_iff]) fun h01 => ?_
  refine refused_row_iff (fun h10 => by simp [h10, decodeI]) fun h10 => ?_
  refine refused_row_iff (fun h18 => by simp [h18, refused_decodeSX_iff]) fun h18 => ?_
  refine refused_row_iff (fun h19 => by simp [h19, refused_decodeSM_iff]) fun h19 => ?_
  refine refused_row_iff (fun h20 => by simp [h20, refused_decodeU_iff]) fun h20 => ?_
  refine refused_row_iff (fun h21 => by simp [h21, refused_decodeZ_iff]) fun h21 => ?_
  refine refused_row_iff (fun h22 => by simp [h22, refused_decodeZ_iff]) fun h22 => ?_
  refine refused_row_iff (fun h30 => by simp [h30, refused_decodeP_iff]) fun h30 => ?_
  refine refused_row_iff (fun h31 => by simp [h31, refused_decodeZ_iff]) fun h31 => ?_
  refine refused_row_iff (fun h32 => by simp [h32, refused_decodeZ_iff]) fun h32 => ?_
  simp [h00, h01, h10, h18, h19, h20, h21, h22, h30, h31, h32]

/-! ### The word of NOP (R102, R110) -/

/-- NOP stands at opcode 0 alone, with all operand bits 0: no other row of R110's map decodes to it. -/
theorem decode_eq_nop_iff (w : Word) : decode w = .ok .nop ↔ opcode w = 0#8 ∧ w.extractLsb' 0 24 = 0#24 := by
  simp only [decode, decodeZ, decodeI, decodeSX, decodeSM, decodeU, decodeP, ite_eq_iff, Except.ok.injEq, reduceCtorEq,
    and_false, or_false, and_true]

/-- A word is its opcode and its operand bits. -/
theorem opcode_append (w : Word) : opcode w ++ w.extractLsb' 0 24 = w := by
  unfold opcode
  exact (BitVec.extractLsb'_append_extractLsb'_eq_extractLsb' (start₁ := 0) rfl).trans BitVec.extractLsb'_eq_self

theorem execCommand_of_error {w : Word} {why : IllegalReason} (h : decode w = .error why) (s : State) :
    execCommand w s = .next (reported s 2 0 0 0 0) := by
  simp only [execCommand, h]
  rfl

theorem execCommand_of_ok {w : Word} {i : Instr} (h : decode w = .ok i) (s : State) : execCommand w s = exec i s := by
  simp only [execCommand, h]

/-- Settles O4: a word that the decoder refuses raises ILLEGAL, and any other decodes to the command it runs. -/
theorem illegalWordsRaiseIllegalAndNoOthers : Obligations.IllegalWordsRaiseIllegalAndNoOthers := by
  unfold Obligations.IllegalWordsRaiseIllegalAndNoOthers
  intro w
  rw [← refused_decode_iff]
  refine ⟨fun hrefused s => ?_, fun hlegal => ?_, fun hnop => ?_⟩
  · obtain ⟨why, hwhy⟩ := hrefused
    exact execCommand_of_error hwhy s
  · cases h : decode w with
    | error why => exact absurd ⟨why, h⟩ hlegal
    | ok i => exact ⟨i, rfl, execCommand_of_ok h⟩
  · obtain ⟨hop, hbits⟩ := (decode_eq_nop_iff w).mp hnop
    rw [← opcode_append w, hop, hbits]
    rfl

end Sys2Proof.Machine
end

section
/-! Proofs of the family 40_window.md: the window's bits are the stream's (R143), and WINDOW delivers the window or
raises RANGE (R146). A window is an OR of shifted bytes, so one bit of it is one bit of the byte that covers it. -/

namespace Sys2Proof.Machine

/-! ### The window, bit by bit (R141, R143) -/

/-- A bit of an OR folded over a list: it is set at the start or in one of the terms. -/
theorem getLsbD_foldl_or {w : Nat} {α : Type} (f : α → BitVec w) (p : Nat) (l : List α) (start : BitVec w) :
    (l.foldl (fun acc a => acc ||| f a) start).getLsbD p = (start.getLsbD p || l.any fun a => (f a).getLsbD p) := by
  induction l generalizing start with
  | nil => simp
  | cons a l ih => rw [List.foldl_cons, ih, BitVec.getLsbD_or, List.any_cons, Bool.or_assoc]

/-- A byte put at place `j` from the window's top covers the bits `8*j .. 8*j+7` below the top, and no others. -/
theorem getLsbD_byteAt (b : Byte) {j k : Nat} (hj : j < 8) (hk : k ≤ 63) :
    (b.setWidth 64 <<< (56 - 8 * j)).getLsbD (63 - k) = (decide (j = k / 8) && b.getLsbD (7 - k % 8)) := by
  have hbit : 63 - k < 64 := by omega
  simp only [BitVec.getLsbD_shiftLeft, BitVec.getLsbD_setWidth, hbit, decide_true, Bool.true_and]
  rcases Nat.lt_trichotomy j (k / 8) with hlt | rfl | hgt
  · have hbelow : 63 - k < 56 - 8 * j := by omega
    simp [hbelow, hlt.ne]
  · have hinside : ¬ 63 - k < 56 - 8 * (k / 8) := by omega
    have hplace : 63 - k - (56 - 8 * (k / 8)) = 7 - k % 8 := by omega
    have hfits : 7 - k % 8 < 64 := by omega
    simp [hinside, hplace, hfits]
  · have habove : 8 ≤ 63 - k - (56 - 8 * j) := by omega
    simp [hgt.ne', BitVec.getLsbD_of_ge b _ habove]

/-- Bit `63 - k` of a window lies in its byte `k / 8` (R141). -/
theorem getLsbD_window (buffer : Nat → Byte) (L i : Nat) {k : Nat} (hk : k ≤ 63) :
    (window buffer L i).getLsbD (63 - k) = (windowByte buffer L i (k / 8)).getLsbD (7 - k % 8) := by
  have hplace : k / 8 < 8 := by omega
  rw [window, getLsbD_foldl_or, BitVec.ofNat_eq_ofNat, BitVec.getLsbD_zero, Bool.false_or, Bool.eq_iff_iff,
    List.any_eq_true]
  constructor
  · rintro ⟨j, hj, hset⟩
    rw [getLsbD_byteAt _ (List.mem_range.mp hj) hk, Bool.and_eq_true, decide_eq_true_eq] at hset
    obtain ⟨rfl, hset⟩ := hset
    exact hset
  · intro hset
    refine ⟨k / 8, List.mem_range.mpr hplace, ?_⟩
    rw [getLsbD_byteAt _ hplace hk, hset, Bool.and_true, decide_eq_true_eq]

/-- A bit of a window's byte is a bit of the zero-extended stream (R15): both read 0 past the buffer's end. -/
theorem getLsbD_windowByte (buffer : Nat → Byte) (L i k : Nat) :
    (windowByte buffer L i (k / 8)).getLsbD (7 - k % 8) = streamBit buffer L (8 * i + k) := by
  have hbyte : (8 * i + k) / 8 = i + k / 8 := by omega
  have hbit : (8 * i + k) % 8 = k % 8 := by omega
  have hinside : 8 * i + k < 8 * L ↔ i + k / 8 < L := by omega
  simp only [streamBit, windowByte, hbyte, hbit, hinside]
  split <;> simp [*]

/-- Settles O36: the byte of the window that covers the bit, then that byte's bit in the stream. -/
theorem windowBitsAreStreamBits : Obligations.WindowBitsAreStreamBits := by
  unfold Obligations.WindowBitsAreStreamBits
  intro buffer L i k _ hk
  rw [getLsbD_window buffer L i hk, getLsbD_windowByte]

/-! ### The command WINDOW (R146) -/

theorem execWindow_of_lt {off : BitVec 24} {s : State} (h : off.toNat < s.srcLen.toNat) :
    execWindow off s = .next (succeeded (setR64 (window (srcByte s) s.srcLen.toNat off.toNat) s)) := by
  rw [execWindow, if_neg (Nat.not_le.mpr h), finish_ok]

theorem execWindow_of_le {off : BitVec 24} {s : State} (h : s.srcLen.toNat ≤ off.toNat) :
    execWindow off s = .next (reported s 4 0 0 0 0) := by
  rw [execWindow, if_pos h, finish_error, raiseError_eq]

/-- The opcode of a word put together from an opcode and operand bits (R100). -/
@[simp] theorem opcode_of_append (op : BitVec 8) (x : BitVec 24) : opcode (op ++ x) = op :=
  BitVec.extractLsb'_append_eq_left

/-- The operand bits of such a word, at the width of `Word`. -/
@[simp] theorem operandBits_of_append (op : BitVec 8) (x : BitVec 24) : (op ++ x : Word).extractLsb' 0 24 = x :=
  BitVec.extractLsb'_append_eq_right

/-- A word of opcode 0x10 is WINDOW of its low 24 bits, whatever they are (R103). -/
theorem decode_windowWord (off : BitVec 24) : decode (0x10#8 ++ off) = .ok (.window off) := by
  simp [decode, decodeI]

/-- Settles O24: the check of the offset decides between the window and RANGE. -/
theorem windowReturnsTheWindowOrRaisesRange : Obligations.WindowReturnsTheWindowOrRaisesRange := by
  unfold Obligations.WindowReturnsTheWindowOrRaisesRange
  exact fun off => ⟨fun s h => execWindow_of_lt h, fun s h => execWindow_of_le h, decode_windowWord off⟩

end Sys2Proof.Machine
end

section
/-! Proofs of the family 41_slice_shifter.md: Extract and Merge bit by bit (R160, R162), and the two commands that
deliver them or raise CONFIG (R165, R167). A bit of either function is followed through its shifts back to the one
operand bit that it is. -/

namespace Sys2Proof.Machine

/-! ### Extract, bit by bit (R160) -/

/-- `mask n` has exactly its low `n` bits set (R18). -/
theorem getLsbD_mask (n i : Nat) : (mask n).getLsbD i = (decide (i < 64) && decide (i < n)) := by
  rw [mask, BitVec.getLsbD_ofNat, Nat.testBit_two_pow_sub_one]

/-- Bit `i` of Extract is the window bit `i` places above the field's lowest, and 0 from `n` on. -/
theorem getLsbD_extract (win : DWord) (b i : Nat) {n : Nat} (hn : n ≤ 32) :
    (extract win b n).getLsbD i = (decide (i < n) && win.getLsbD (64 - b - n + i)) := by
  rw [extract, BitVec.getLsbD_setWidth, BitVec.getLsbD_and, BitVec.getLsbD_ushiftRight, getLsbD_mask]
  by_cases hi : i < n
  · have h32 : i < 32 := by omega
    have h64 : i < 64 := by omega
    simp [hi, h32, h64]
  · simp [hi]

/-- Extract's result is an `n`-bit value. -/
theorem extract_lt (win : DWord) (b : Nat) {n : Nat} (hn : n ≤ 32) : (extract win b n).toNat < 2 ^ n := by
  refine Nat.lt_pow_two_of_testBit _ fun i hi => ?_
  rw [BitVec.testBit_toNat, getLsbD_extract win b i hn, decide_eq_false (Nat.not_lt.mpr hi), Bool.false_and]

/-- Settles O37: the place of each bit in the window, and no bit at `n` or above. -/
theorem extractTakesTheFieldBelowTheOffset : Obligations.ExtractTakesTheFieldBelowTheOffset := by
  unfold Obligations.ExtractTakesTheFieldBelowTheOffset
  intro win b n hb _ hn
  refine ⟨fun q hq => ?_, extract_lt win b hn⟩
  have hinside : n - 1 - q < n := by omega
  have hplace : 64 - b - n + (n - 1 - q) = 63 - b - q := by omega
  rw [getLsbD_extract win b _ hn, hplace, decide_eq_true hinside, Bool.true_and]

/-! ### Merge, bit by bit (R162) -/

/-- Merge's remainder part holds the top `rl` bits of `rb` at the window's top, and nothing else. -/
theorem getLsbD_mergeRemainder (rb : Byte) {rl k : Nat} (hrl : rl ≤ 7) (hk : k ≤ 63) :
    ((rb &&& hmask8 rl).setWidth 64 <<< 56).getLsbD (63 - k) = (decide (k < rl) && rb.getLsbD (7 - k)) := by
  rw [getLsbD_byteAt (j := 0) _ (by decide) hk, BitVec.getLsbD_and, getLsbD_hmask8]
  by_cases hlt : k < rl
  · have hbyte : 0 = k / 8 := by omega
    have hbit : k % 8 = k := by omega
    have hset : 8 - rl ≤ 7 - k := by omega
    have h8 : 7 - k < 8 := by omega
    simp [hlt, ← hbyte, hbit, hset, h8]
  · have hclear : ¬ (0 = k / 8 ∧ 8 - rl ≤ 7 - k % 8) := by omega
    rcases not_and_or.mp hclear with hbyte | hbit
    · simp [hlt, hbyte]
    · simp [hlt, hbit]

/-- Merge's value part holds the low `n` bits of `m` right below the remainder's `rl` places, and nothing else. -/
theorem getLsbD_mergeValue (m : Word) {rl n k : Nat} (hn : n ≤ 32) (hk : k ≤ 63) :
    (((m.setWidth 64 &&& mask n) <<< (64 - n)) >>> rl).getLsbD (63 - k) =
      (decide (rl ≤ k ∧ k < rl + n) && m.getLsbD (n - 1 - (k - rl))) := by
  rw [BitVec.getLsbD_ushiftRight, BitVec.getLsbD_shiftLeft, BitVec.getLsbD_and, BitVec.getLsbD_setWidth, getLsbD_mask]
  by_cases hin : rl ≤ k ∧ k < rl + n
  · have h64 : rl + (63 - k) < 64 := by omega
    have habove : ¬ rl + (63 - k) < 64 - n := by omega
    have hplace : rl + (63 - k) - (64 - n) = n - 1 - (k - rl) := by omega
    have hbit : n - 1 - (k - rl) < n := by omega
    have hbit64 : n - 1 - (k - rl) < 64 := by omega
    simp [hin, h64, habove, hplace, hbit, hbit64]
  · have hout : ¬ rl + (63 - k) < 64 ∨ rl + (63 - k) < 64 - n := by omega
    rcases hout with hout | hout
    · simp only [hin, hout, decide_false, Bool.false_and]
    · simp [hin, hout]

/-- Bit `k` from the top of a merged window: first the remainder, then the value, then zeros. -/
theorem getLsbD_merge (rb : Byte) (m : Word) {rl n k : Nat} (hrl : rl ≤ 7) (hn : n ≤ 32) (hk : k ≤ 63) :
    (merge rb rl m n).getLsbD (63 - k) =
      (decide (k < rl) && rb.getLsbD (7 - k) ||
        decide (rl ≤ k ∧ k < rl + n) && m.getLsbD (n - 1 - (k - rl))) := by
  rw [merge, BitVec.getLsbD_or, getLsbD_mergeRemainder rb hrl hk, getLsbD_mergeValue m hn hk]

/-- Settles O38: the three ranges of the window's bits, from the top down. -/
theorem mergeConcatenatesRemainderAndValue : Obligations.MergeConcatenatesRemainderAndValue := by
  unfold Obligations.MergeConcatenatesRemainderAndValue
  intro rb rl m n hrl _ hn
  refine ⟨fun q hq => ?_, fun q hq => ?_, fun q hq => getLsbD_merge_low rb m (by omega)⟩
  · have hk : q ≤ 63 := by omega
    simp [getLsbD_merge rb m hrl hn hk, hq, Nat.not_le.mpr hq]
  · have hk : rl + q ≤ 63 := by omega
    simp [Nat.sub_sub 63 rl q, getLsbD_merge rb m hrl hn hk, hq]

/-! ### Shared by the commands: CONFIG on the width (R282), ILLEGAL (R111), and the low fields of a word -/

/-- CONFIG on a group width reports the width field itself. -/
theorem finish_widthError (s : State) (n : BitVec 6) (greatest : Nat) :
    finish s (.error (widthError n.toNat greatest)) =
      .next (reported s 1 1 (n.setWidth 32) 1 (BitVec.ofNat 32 greatest)) := by
  rw [← BitVec.ofNat_toNat]
  rfl

theorem execCommand_of_refused {w : Word} (h : Refused (decode w)) (s : State) :
    execCommand w s = .next (reported s 2 0 0 0 0) := by
  obtain ⟨why, hwhy⟩ := h
  exact execCommand_of_error hwhy s

section
/-! The formats SX, SM, U and P end alike: a field from bit 8 on, the reserved bits 7:6, and N in bits 5:0. -/

variable {k f : Nat} (x : BitVec k) (field : BitVec f) (n : BitVec 6)

theorem extractLsb'_groupWord_n : (x ++ field ++ 0#2 ++ n).extractLsb' 0 6 = n :=
  BitVec.extractLsb'_append_eq_right

theorem extractLsb'_groupWord_reserved : (x ++ field ++ 0#2 ++ n).extractLsb' 6 2 = 0#2 := by
  rw [BitVec.extractLsb'_append_eq_of_le (Nat.le_refl 6), BitVec.extractLsb'_append_eq_right]

theorem extractLsb'_groupWord_field : (x ++ field ++ 0#2 ++ n).extractLsb' 8 f = field := by
  rw [BitVec.extractLsb'_append_eq_of_le (by decide), BitVec.extractLsb'_append_eq_of_le (Nat.le_refl 2),
    BitVec.extractLsb'_append_eq_right]

theorem extractLsb'_groupWord_high (start len : Nat) :
    (x ++ field ++ 0#2 ++ n).extractLsb' (start + f + 2 + 6) len = x.extractLsb' start len := by
  rw [BitVec.extractLsb'_append_eq_of_le (Nat.le_add_left 6 _), Nat.add_sub_cancel,
    BitVec.extractLsb'_append_eq_of_le (Nat.le_add_left 2 _), Nat.add_sub_cancel,
    BitVec.extractLsb'_append_eq_of_le (Nat.le_add_left f _), Nat.add_sub_cancel]

end

/-! ### The command SLICE_EXTRACT (R165) -/

theorem execSliceExtract_of_valid {n : BitVec 6} (off3 : BitVec 3) (s : State) (hlow : 1 ≤ n.toNat)
    (hhigh : n.toNat ≤ 32) :
    execSliceExtract n off3 s = .next (succeeded (setR32 (extract (s.xHi ++ s.xLo) off3.toNat n.toNat) s)) := by
  rw [execSliceExtract, if_neg (by omega), finish_ok]

theorem execSliceExtract_of_invalid {n : BitVec 6} (off3 : BitVec 3) (s : State) (h : n.toNat < 1 ∨ 32 < n.toNat) :
    execSliceExtract n off3 s = .next (reported s 1 1 (n.setWidth 32) 1 32) := by
  rw [execSliceExtract, if_pos h]
  exact finish_widthError s n 32

theorem decode_of_opcode_sliceExtract {w : Word} (h : opcode w = 0x18#8) : decode w = decodeSX w := by
  simp [decode, h]

/-- The word of format SX with every reserved bit 0 (R107). -/
theorem decode_sliceExtractWord (n : BitVec 6) (off3 : BitVec 3) :
    decode (0x18#8 ++ 0#13 ++ off3 ++ 0#2 ++ n) = .ok (.sliceExtract n off3) := by
  have hopcode : opcode (0x18#8 ++ 0#13 ++ off3 ++ 0#2 ++ n) = 0x18#8 :=
    (extractLsb'_groupWord_high (0x18#8 ++ 0#13) off3 n 13 8).trans BitVec.extractLsb'_append_eq_left
  have hreserved : (0x18#8 ++ 0#13 ++ off3 ++ 0#2 ++ n).extractLsb' 11 13 = 0#13 :=
    (extractLsb'_groupWord_high (0x18#8 ++ 0#13) off3 n 0 13).trans BitVec.extractLsb'_append_eq_right
  rw [decode_of_opcode_sliceExtract hopcode, decodeSX, extractLsb'_groupWord_n, extractLsb'_groupWord_field,
    extractLsb'_groupWord_reserved, hreserved, if_neg (by simp)]

/-- Settles O25: the check of the width decides between the field and CONFIG, and format SX refuses its reserved bits. -/
theorem sliceExtractReturnsTheFieldOrRaisesConfig : Obligations.SliceExtractReturnsTheFieldOrRaisesConfig := by
  unfold Obligations.SliceExtractReturnsTheFieldOrRaisesConfig
  intro n b
  refine ⟨execSliceExtract_of_valid b, execSliceExtract_of_invalid b,
    decode_sliceExtractWord n b, fun w hop hbits => execCommand_of_refused ?_⟩
  rw [decode_of_opcode_sliceExtract hop]
  exact (refused_decodeSX_iff w).mpr hbits

/-! ### The command SLICE_MERGE (R167) -/

theorem execSliceMerge_of_valid {n : BitVec 6} (rl : BitVec 3) (rb : BitVec 8) (s : State) (hlow : 1 ≤ n.toNat)
    (hhigh : n.toNat ≤ 32) :
    execSliceMerge n rl rb s = .next (succeeded (setR64 (merge rb rl.toNat s.xLo n.toNat) s)) := by
  rw [execSliceMerge, if_neg (by omega), finish_ok]

theorem execSliceMerge_of_invalid {n : BitVec 6} (rl : BitVec 3) (rb : BitVec 8) (s : State)
    (h : n.toNat < 1 ∨ 32 < n.toNat) :
    execSliceMerge n rl rb s = .next (reported s 1 1 (n.setWidth 32) 1 32) := by
  rw [execSliceMerge, if_pos h]
  exact finish_widthError s n 32

theorem decode_of_opcode_sliceMerge {w : Word} (h : opcode w = 0x19#8) : decode w = decodeSM w := by
  simp [decode, h]

/-- The word of format SM with every reserved bit 0 (R108). -/
theorem decode_sliceMergeWord (n : BitVec 6) (rl : BitVec 3) (rb : BitVec 8) :
    decode (0x19#8 ++ rb ++ 0#5 ++ rl ++ 0#2 ++ n) = .ok (.sliceMerge n rl rb) := by
  have hhigh := extractLsb'_groupWord_high (0x19#8 ++ rb ++ 0#5) rl n
  have hopcode : opcode (0x19#8 ++ rb ++ 0#5 ++ rl ++ 0#2 ++ n) = 0x19#8 :=
    (hhigh 13 8).trans <| (BitVec.extractLsb'_append_eq_of_le (by decide)).trans BitVec.extractLsb'_append_eq_left
  have hrb : (0x19#8 ++ rb ++ 0#5 ++ rl ++ 0#2 ++ n).extractLsb' 16 8 = rb :=
    (hhigh 5 8).trans <| (BitVec.extractLsb'_append_eq_of_le (by decide)).trans BitVec.extractLsb'_append_eq_right
  have hreserved : (0x19#8 ++ rb ++ 0#5 ++ rl ++ 0#2 ++ n).extractLsb' 11 5 = 0#5 :=
    (hhigh 0 5).trans BitVec.extractLsb'_append_eq_right
  rw [decode_of_opcode_sliceMerge hopcode, decodeSM, extractLsb'_groupWord_n, extractLsb'_groupWord_field,
    extractLsb'_groupWord_reserved, hreserved, hrb, if_neg (by simp)]

/-- Settles O26: the check of the width decides between the window and CONFIG, and format SM refuses its reserved
bits. -/
theorem sliceMergeReturnsTheWindowOrRaisesConfig : Obligations.SliceMergeReturnsTheWindowOrRaisesConfig := by
  unfold Obligations.SliceMergeReturnsTheWindowOrRaisesConfig
  intro n rl rb
  refine ⟨execSliceMerge_of_valid rl rb, execSliceMerge_of_invalid rl rb,
    decode_sliceMergeWord n rl rb, fun w hop hbits => execCommand_of_refused ?_⟩
  rw [decode_of_opcode_sliceMerge hop]
  exact (refused_decodeSM_iff w).mpr hbits

end Sys2Proof.Machine
end

section
/-! Proofs of the family 42_unpacker.md: Remain (R183), the unpacker's three commands (R185 to R189), and that the
unpacker and the packer share no state (R192). -/

namespace Sys2Proof.Machine

/-! ### Remain and the number of groups (R182, R183) -/

/-- The groups cover the data and the padding of the last one (R183). -/
theorem remain_add_eq (L : Nat) {n : Nat} (hn : 1 ≤ n) : remain L n + 8 * L = chunkCount L n * n := by
  unfold remain chunkCount
  generalize 8 * L = bits
  have hbits : bits / n * n + bits % n = bits := Nat.div_add_mod' bits n
  have hlast : bits % n < n := Nat.mod_lt _ hn
  split
  · have hcount : (bits + n - 1) / n = bits / n :=
      Nat.div_eq_of_lt_le (by omega) (by rw [Nat.succ_mul]; omega)
    rw [hcount]
    omega
  · have hcount : (bits + n - 1) / n = bits / n + 1 :=
      Nat.div_eq_of_lt_le (by rw [Nat.succ_mul]; omega) (by rw [Nat.succ_mul, Nat.succ_mul]; omega)
    rw [hcount, Nat.succ_mul]
    omega

/-- Settles O39: Remain is what the whole groups hold beyond the data, and less than one group. -/
theorem remainIsThePaddingOfTheLastGroup : Obligations.RemainIsThePaddingOfTheLastGroup := by
  unfold Obligations.RemainIsThePaddingOfTheLastGroup
  intro L n hn
  exact ⟨rfl, remain_add_eq L hn, Nat.le_sub_one_of_lt (remain_lt L hn), by simp [remain]⟩

/-- A group starts inside the data exactly when it is one of the `ceil(8L / n)` groups (R182, R184). -/
theorem mul_lt_data_iff {L n j : Nat} (hn : 1 ≤ n) : j * n < 8 * L ↔ j < chunkCount L n := by
  rw [chunkCount, Nat.lt_iff_add_one_le (m := j), Nat.le_div_iff_mul_le hn, Nat.succ_mul j]
  omega

/-! ### UNPACK_BEGIN (R185) -/

theorem greatestWidth_eq (wc : BitVec 2) : greatestWidth wc = min 32 (8 * 2 ^ wc.toNat) := by
  rw [greatestWidth, valueWidth, Nat.shiftLeft_eq]

/-- The session that a successful UNPACK_BEGIN opens, at its first value (R185). -/
def sessionOpened (n : BitVec 6) (wc : BitVec 2) (s : State) : State :=
  { s with
    uN := n, uWc := wc, uPos := 0, uCount := 0
    uRemain := BitVec.ofNat 6 (remain s.srcLen.toNat n.toNat)
    uActive := true, uValid := false }

theorem execUnpackBegin_of_valid {n : BitVec 6} {wc : BitVec 2} (hwc : wc ≠ 3#2) (s : State) (hlow : 1 ≤ n.toNat)
    (hhigh : n.toNat ≤ greatestWidth wc) : execUnpackBegin n wc s = .next (succeeded (sessionOpened n wc s)) := by
  rw [execUnpackBegin, if_neg hwc, if_neg (by omega)]
  rfl

theorem execUnpackBegin_of_invalid {n : BitVec 6} {wc : BitVec 2} (hwc : wc ≠ 3#2) (s : State)
    (h : n.toNat < 1 ∨ greatestWidth wc < n.toNat) :
    execUnpackBegin n wc s = .next (reported s 1 1 (n.setWidth 32) 1 (BitVec.ofNat 32 (greatestWidth wc))) := by
  rw [execUnpackBegin, if_neg hwc, if_pos h]
  exact finish_widthError s n (greatestWidth wc)

theorem decode_of_opcode_unpackBegin {w : Word} (h : opcode w = 0x20#8) : decode w = decodeU w := by
  simp [decode, h]

/-- The word of format U with every reserved bit 0 (R104). -/
theorem decode_unpackBeginWord (n : BitVec 6) {wc : BitVec 2} (hwc : wc ≠ 3#2) :
    decode (0x20#8 ++ 0#14 ++ wc ++ 0#2 ++ n) = .ok (.unpackBegin n wc) := by
  have hhigh := extractLsb'_groupWord_high (0x20#8 ++ 0#14) wc n
  have hopcode : opcode (0x20#8 ++ 0#14 ++ wc ++ 0#2 ++ n) = 0x20#8 :=
    (hhigh 14 8).trans BitVec.extractLsb'_append_eq_left
  have hreserved : (0x20#8 ++ 0#14 ++ wc ++ 0#2 ++ n).extractLsb' 10 14 = 0#14 :=
    (hhigh 0 14).trans BitVec.extractLsb'_append_eq_right
  rw [decode_of_opcode_unpackBegin hopcode, decodeU, extractLsb'_groupWord_n, extractLsb'_groupWord_field,
    extractLsb'_groupWord_reserved, hreserved, if_neg (by simp), if_neg hwc]

/-- Settles O27: the check of the width decides between the session and CONFIG, and format U refuses its reserved bits
and the reserved width code. -/
theorem unpackBeginOpensASessionOrRaisesConfig : Obligations.UnpackBeginOpensASessionOrRaisesConfig := by
  unfold Obligations.UnpackBeginOpensASessionOrRaisesConfig
  intro n wc
  rw [← greatestWidth_eq]
  refine ⟨fun hwc => ⟨execUnpackBegin_of_valid hwc, execUnpackBegin_of_invalid hwc, decode_unpackBeginWord n hwc⟩,
    fun w hop hbits => execCommand_of_refused ?_⟩
  rw [decode_of_opcode_unpackBegin hop]
  exact (refused_decodeU_iff w).mpr hbits

/-! ### UNPACK_NEXT (R187, R188) -/

/-- The session after the group at the cursor has been delivered (R187). -/
def groupDelivered (s : State) : State :=
  setR32 (groupAtCursor s) { s with uPos := s.uPos + s.uN.setWidth 32, uCount := s.uCount + 1, uValid := true }

/-- The session when no group is left (R188). -/
def noGroupLeft (s : State) : State := setR32 0 { s with uValid := false }

theorem execUnpackNext_of_lt {s : State} (ha : s.uActive = true) (h : s.uPos.toNat < 8 * s.srcLen.toNat) :
    execUnpackNext s = .next (succeeded (groupDelivered s)) := by
  rw [execUnpackNext, if_neg (by simp [ha]), if_neg (Nat.not_le.mpr h)]
  rfl

theorem execUnpackNext_of_le {s : State} (ha : s.uActive = true) (h : 8 * s.srcLen.toNat ≤ s.uPos.toNat) :
    execUnpackNext s = .next (succeeded (noGroupLeft s)) := by
  rw [execUnpackNext, if_neg (by simp [ha]), if_pos h]
  rfl

theorem execUnpackNext_of_idle {s : State} (ha : s.uActive = false) :
    execUnpackNext s = .next (reported s 3 0 0 0 0) := by
  rw [execUnpackNext, if_pos ha]
  rfl

/-- Format Z refuses every operand bit (R102). -/
theorem refused_decodeZ_append (op : BitVec 8) {x : BitVec 24} (hx : x ≠ 0#24) (i : Instr) :
    Refused (decodeZ (op ++ x) i) := by
  rw [decodeZ, operandBits_of_append, if_neg hx]
  exact refused_error _

theorem decode_of_opcode_unpackNext {w : Word} (h : opcode w = 0x21#8) : decode w = decodeZ w .unpackNext := by
  simp [decode, h]

/-- Settles O28: the three cases of the command, and format Z of its word. -/
theorem unpackNextDeliversTheGroupAtTheCursor : Obligations.UnpackNextDeliversTheGroupAtTheCursor := by
  unfold Obligations.UnpackNextDeliversTheGroupAtTheCursor
  refine ⟨fun s => execUnpackNext_of_lt, fun s => execUnpackNext_of_le, fun s => execUnpackNext_of_idle, rfl,
    fun x hx => execCommand_of_refused ?_⟩
  rw [decode_of_opcode_unpackNext (opcode_of_append _ x)]
  exact refused_decodeZ_append _ hx _

/-! ### UNPACK_END (R189) -/

theorem execUnpackEnd_of_active {s : State} (ha : s.uActive = true) :
    execUnpackEnd s = .next (succeeded { s with uActive := false, uValid := false }) := by
  rw [execUnpackEnd, if_neg (by simp [ha]), finish_ok]

theorem execUnpackEnd_of_idle {s : State} (ha : s.uActive = false) :
    execUnpackEnd s = .next (reported s 3 0 0 0 0) := by
  rw [execUnpackEnd, if_pos ha]
  rfl

theorem decode_of_opcode_unpackEnd {w : Word} (h : opcode w = 0x22#8) : decode w = decodeZ w .unpackEnd := by
  simp [decode, h]

/-- Settles O29: the two cases of the command, and format Z of its word. -/
theorem unpackEndClosesTheSession : Obligations.UnpackEndClosesTheSession := by
  unfold Obligations.UnpackEndClosesTheSession
  refine ⟨fun s => execUnpackEnd_of_active, fun s => execUnpackEnd_of_idle, rfl,
    fun x hx => execCommand_of_refused ?_⟩
  rw [decode_of_opcode_unpackEnd (opcode_of_append _ x)]
  exact refused_decodeZ_append _ hx _

/-! ### The unpacker and the packer share no state (R192) -/

/-- A change `f` of the state that the reports of the outcome do not see may be made before a command's end as well
as after it. -/
theorem finish_map (f : State → State) (herror : ∀ e s, raiseError e (f s) = f (raiseError e s))
    (hok : ∀ s, succeeded (f s) = f (succeeded s)) {s t : State} {r : Except CommandError State}
    (h : finish s r = .next t) : finish (f s) (r.map f) = .next (f t) := by
  rcases finish_cases h with ⟨e, rfl, rfl⟩ | ⟨u, rfl, rfl⟩
  · exact congrArg _ (herror e s)
  · exact congrArg _ (hok u)

theorem finish_withPackerOf (p : State) {s t : State} {r : Except CommandError State} (h : finish s r = .next t) :
    finish (withPackerOf p s) (r.map (withPackerOf p)) = .next (withPackerOf p t) :=
  finish_map (withPackerOf p) (fun e _ => by cases e <;> rfl) (fun _ => rfl) h

theorem finish_withUnpackerOf (u : State) {s t : State} {r : Except CommandError State} (h : finish s r = .next t) :
    finish (withUnpackerOf u s) (r.map (withUnpackerOf u)) = .next (withUnpackerOf u t) :=
  finish_map (withUnpackerOf u) (fun e _ => by cases e <;> rfl) (fun _ => rfl) h

theorem exec_withPackerOf {i : Instr} (hi : isUnpackBegin i = true ∨ i = .unpackNext ∨ i = .unpackEnd) (p : State)
    {s t : State} (h : exec i s = .next t) : exec i (withPackerOf p s) = .next (withPackerOf p t) := by
  cases i with
  | unpackBegin | unpackNext | unpackEnd =>
    rw [← finish_withPackerOf p h]
    simp only [apply_ite (Except.map (withPackerOf p))]
    rfl
  | _ => simp [isUnpackBegin] at hi

theorem exec_withUnpackerOf {i : Instr} (hi : isPackBegin i = true ∨ i = .packPush ∨ i = .packEnd) (u : State)
    {s t : State} (h : exec i s = .next t) : exec i (withUnpackerOf u s) = .next (withUnpackerOf u t) := by
  cases i with
  | packBegin | packPush | packEnd =>
    rw [← finish_withUnpackerOf u h]
    simp only [apply_ite (Except.map (withUnpackerOf u))]
    rfl
  | _ => simp [isPackBegin] at hi

/-- Settles O44: neither the checks nor the writes of a command look at the other part, so exchanging that part
before the command or after it is the same. -/
theorem unpackerAndPackerShareNoState : Obligations.UnpackerAndPackerShareNoState := by
  unfold Obligations.UnpackerAndPackerShareNoState
  exact ⟨fun i s p t hi h => exec_withPackerOf hi p h, fun i s u t hi h => exec_withUnpackerOf hi u h⟩

end Sys2Proof.Machine
end

section
/-! Proofs of the family 42_unpacker.md: the values of a session (R190). In a sound state UNPACK_NEXT takes the first
of the values left of Chunks (R181, R187), every other step of the session leaves the unpacker as it was (R192), and
an induction over the run puts the two together. -/

namespace Sys2Proof.Machine

/-! ### A group of the stream is the field under the cursor (R181, R187) -/

theorem msbFirst_succ (n : Nat) (bit : Nat → Bool) :
    msbFirst (n + 1) bit = 2 ^ n * (bit 0).toNat + msbFirst n fun t => bit (t + 1) := by
  simp [msbFirst, List.range_succ_eq_map, Nat.mul_comm, Nat.sub_sub, Nat.add_comm, Function.comp_def]

theorem msbFirst_lt (n : Nat) (bit : Nat → Bool) : msbFirst n bit < 2 ^ n := by
  induction n generalizing bit with
  | zero => simp [msbFirst]
  | succ n ih =>
    have hrest := ih fun t => bit (t + 1)
    have htop : 2 ^ n * (bit 0).toNat ≤ 2 ^ n := mul_le_of_le_one_right' (Bool.toNat_le _)
    rw [msbFirst_succ, Nat.pow_succ]
    omega

/-- Bit `i` of a number written most significant bit first is the digit `n - 1 - i`. -/
theorem testBit_msbFirst (n i : Nat) (bit : Nat → Bool) :
    (msbFirst n bit).testBit i = (decide (i < n) && bit (n - 1 - i)) := by
  induction n generalizing bit with
  | zero => simp [msbFirst]
  | succ n ih =>
    rw [msbFirst_succ, Nat.testBit_two_pow_mul_add _ (msbFirst_lt n _), ih]
    rcases Nat.lt_trichotomy i n with hlt | rfl | hgt
    · have hdigit : n - 1 - i + 1 = n - i := by omega
      simp [hlt, hlt.trans (Nat.lt_succ_self n), hdigit]
    · cases h : bit 0 <;> simp [h]
    · have hhigh : (bit 0).toNat < 2 ^ (i - n) := (Bool.toNat_lt _).trans_le (Nat.le_pow (by omega))
      simp [Nat.testBit_lt_two_pow hhigh, hgt.not_gt, Nat.not_lt.mpr (Nat.succ_le_of_lt hgt)]

/-- Extract in the window at a position's own byte reads the `n` bits of the stream from that position on. -/
theorem extract_window_eq (buffer : Nat → Byte) (L pos : Nat) {n : Nat} (hn : n ≤ 32) :
    extract (window buffer L (pos / 8)) (pos % 8) n =
      BitVec.ofNat 32 (msbFirst n fun t => streamBit buffer L (pos + t)) := by
  apply BitVec.eq_of_getLsbD_eq
  intro i hi
  rw [getLsbD_extract _ _ _ hn, BitVec.getLsbD_ofNat, testBit_msbFirst, decide_eq_true hi, Bool.true_and]
  by_cases hin : i < n
  · have hplace : 64 - pos % 8 - n + i = 63 - (pos % 8 + (n - 1 - i)) := by omega
    have hpos : 8 * (pos / 8) + (pos % 8 + (n - 1 - i)) = pos + (n - 1 - i) := by omega
    rw [hplace, getLsbD_window _ _ _ (by omega), getLsbD_windowByte, hpos]
  · simp [hin]

/-! ### What a session has yet to deliver (R190) -/

/-- The values of Chunks from U_COUNT on. -/
def undelivered (s : State) : List Word := (chunks (srcByte s) s.srcLen.toNat s.uN.toNat).drop s.uCount.toNat

section
variable {s : State} (hs : StateSound s) (ha : s.uActive = true)
include hs ha

theorem uN_range : 1 ≤ s.uN.toNat ∧ s.uN.toNat ≤ 32 := by
  obtain ⟨-, -, -, -, -, ⟨-, hu⟩, -⟩ := hs
  obtain ⟨-, hn1, hnmax, -⟩ := hu ha
  exact ⟨hn1, hnmax.trans (Nat.min_le_left 32 _)⟩

theorem uPos_eq_mul : s.uPos.toNat = s.uCount.toNat * s.uN.toNat := by
  obtain ⟨-, -, -, -, -, ⟨-, hu⟩, -⟩ := hs
  obtain ⟨-, -, -, -, hpos, -⟩ := hu ha
  exact hpos

theorem uRemain_eq : s.uRemain.toNat = remain s.srcLen.toNat s.uN.toNat := by
  obtain ⟨-, -, -, -, -, ⟨-, hu⟩, -⟩ := hs
  obtain ⟨-, -, -, hremain, -⟩ := hu ha
  exact hremain

/-- A group is left at the cursor exactly while U_COUNT is below the number of groups (R184). -/
theorem uPos_lt_data_iff :
    s.uPos.toNat < 8 * s.srcLen.toNat ↔ s.uCount.toNat < chunkCount s.srcLen.toNat s.uN.toNat := by
  obtain ⟨hn1, -⟩ := uN_range hs ha
  rw [uPos_eq_mul hs ha, mul_lt_data_iff hn1]

/-- The group at the cursor is the value number U_COUNT of Chunks (R187). -/
theorem groupAtCursor_eq_chunk :
    groupAtCursor s = BitVec.ofNat 32 (chunk (srcByte s) s.srcLen.toNat s.uN.toNat s.uCount.toNat) := by
  obtain ⟨-, hn32⟩ := uN_range hs ha
  rw [groupAtCursor, extract_window_eq _ _ _ hn32, uPos_eq_mul hs ha, chunk]

theorem uCount_succ (hleft : s.uPos.toNat < 8 * s.srcLen.toNat) :
    (s.uCount + 1).toNat = s.uCount.toNat + 1 := by
  have hpos := uPos_lt hs ha
  obtain ⟨hn1, -⟩ := uN_range hs ha
  have hle : s.uCount.toNat ≤ s.uPos.toNat := uPos_eq_mul hs ha ▸ Nat.le_mul_of_pos_right _ hn1
  exact BitVec.toNat_add_of_lt (show s.uCount.toNat + 1 < 2 ^ 32 by omega)

/-- Delivering a group takes the first of the values left. -/
theorem undelivered_of_lt (hleft : s.uPos.toNat < 8 * s.srcLen.toNat) :
    undelivered s = groupAtCursor s :: undelivered (succeeded (groupDelivered s)) := by
  have hcount : s.uCount.toNat < (chunks (srcByte s) s.srcLen.toNat s.uN.toNat).length := by
    simpa [chunks] using (uPos_lt_data_iff hs ha).mp hleft
  have hvalue : (chunks (srcByte s) s.srcLen.toNat s.uN.toNat)[s.uCount.toNat] = groupAtCursor s := by
    simp [chunks, groupAtCursor_eq_chunk hs ha]
  rw [undelivered, List.drop_eq_getElem_cons hcount, hvalue, ← uCount_succ hs ha hleft]
  rfl

/-- With the cursor past the data every value has been delivered. -/
theorem undelivered_of_le (hdone : 8 * s.srcLen.toNat ≤ s.uPos.toNat) : undelivered s = [] := by
  have hcount : chunkCount s.srcLen.toNat s.uN.toNat ≤ s.uCount.toNat :=
    Nat.not_lt.mp fun h => Nat.not_lt.mpr hdone ((uPos_lt_data_iff hs ha).mpr h)
  exact List.drop_eq_nil_of_le (by simpa [chunks] using hcount)

end

/-! ### The commands that leave the unpacker alone -/

/-- `t` has the unpacker's part of `s` (R192), and the bytes drawn with it (R62). -/
structure KeepsUnpacker (s t : State) : Prop where
  part : withUnpackerOf s t = t
  drawn : t.powerOns = s.powerOns

namespace KeepsUnpacker
variable {s t : State} (h : KeepsUnpacker s t)
include h

theorem srcByte_eq : srcByte t = srcByte s := srcByte_congr (congrArg State.src h.part).symm h.drawn
theorem srcLen_eq : t.srcLen = s.srcLen := (congrArg State.srcLen h.part).symm
theorem uN_eq : t.uN = s.uN := (congrArg State.uN h.part).symm
theorem uCount_eq : t.uCount = s.uCount := (congrArg State.uCount h.part).symm
theorem uRemain_eq : t.uRemain = s.uRemain := (congrArg State.uRemain h.part).symm

theorem undelivered_eq : undelivered t = undelivered s := by
  rw [undelivered, undelivered, h.srcByte_eq, h.srcLen_eq, h.uN_eq, h.uCount_eq]

end KeepsUnpacker

theorem raiseError_keepsUnpacker (e : CommandError) (s : State) : KeepsUnpacker s (raiseError e s) := by
  cases e <;> exact ⟨rfl, rfl⟩

/-- What a command that answers `t` may do: raise any error, or make writes that keep the unpacker's part. -/
def ResultKeepsUnpacker (s t : State) : Except CommandError State → Prop
  | .error _ => True
  | .ok u => t = succeeded u → KeepsUnpacker s u

theorem ResultKeepsUnpacker.check {s t : State} {r : Except CommandError State} {c : Prop} [Decidable c]
    {e : CommandError} (hr : ResultKeepsUnpacker s t r) : ResultKeepsUnpacker s t (if c then .error e else r) := by
  split
  · trivial
  · exact hr

theorem finish_keepsUnpacker {s t : State} {r : Except CommandError State} (h : finish s r = .next t)
    (hr : ResultKeepsUnpacker s t r) : KeepsUnpacker s t := by
  rcases finish_cases h with ⟨e, rfl, rfl⟩ | ⟨u, rfl, rfl⟩
  · exact raiseError_keepsUnpacker e s
  · obtain ⟨hpart, hdrawn⟩ := hr rfl
    exact ⟨congrArg succeeded hpart, hdrawn⟩

/-- A command after which a session is open, other than UNPACK_NEXT and a successful UNPACK_BEGIN, leaves the
unpacker as it was (R186, R192). -/
theorem exec_keepsUnpacker {i : Instr} {s t : State} (h : exec i s = .next t) (ha : t.uActive = true)
    (hnext : i ≠ .unpackNext) (hbegin : isUnpackBegin i = true → t.err ≠ 0) : KeepsUnpacker s t := by
  cases i with
  | nop => exact finish_keepsUnpacker (r := .ok s) h fun _ => ⟨rfl, rfl⟩
  | softReset => exact finish_keepsUnpacker (r := .ok (clearRegisters s)) h fun ht => by simp [ht] at ha
  | window off => exact finish_keepsUnpacker h (.check fun _ => ⟨rfl, rfl⟩)
  | sliceExtract n off3 => exact finish_keepsUnpacker h (.check fun _ => ⟨rfl, rfl⟩)
  | sliceMerge n rl rb => exact finish_keepsUnpacker h (.check fun _ => ⟨rfl, rfl⟩)
  | unpackBegin n wc =>
    exact finish_keepsUnpacker h (.check (.check fun ht => absurd (congrArg State.err ht) (hbegin rfl)))
  | unpackNext => exact absurd rfl hnext
  | unpackEnd => exact finish_keepsUnpacker h (.check fun ht => by simp [ht] at ha)
  | packBegin n rem rm => exact finish_keepsUnpacker h (.check (.check (.check fun _ => ⟨rfl, rfl⟩)))
  | packPush => exact finish_keepsUnpacker h (.check (.check fun _ => ⟨rfl, rfl⟩))
  | packEnd => exact finish_keepsUnpacker h (.check (.check fun _ => ⟨rfl, rfl⟩))

/-! ### Steps, and the command that a step runs -/

theorem writeRegister_next (r : Reg) (d : Word) (s : State) : ∃ t, writeRegister r d s = .next t := by
  cases r
  case CMD =>
    obtain ⟨u, hu⟩ := execCommand_next d s
    exact ⟨respond .okWrite u, by rw [writeRegister, hu, answerWith_next]⟩
  case SRC_LEN =>
    simp only [writeRegister, writeSrcLen]
    split
    · exact ⟨_, rfl⟩
    · split <;> exact ⟨_, rfl⟩
  all_goals exact ⟨_, rfl⟩

theorem hostWrite_next (addr : Word) (data : BusData) (s : State) : ∃ t, hostWrite addr data s = .next t := by
  unfold hostWrite
  split
  · exact writeRegister_next _ _ s
  · unfold writeSrc
    split <;> exact ⟨_, rfl⟩
  · exact ⟨_, rfl⟩

/-- Every step has a next state (R327). -/
theorem step_eq_stepTo (s : State) : step s = .next (stepTo s) := by
  have hnext : ∃ t, step s = .next t := by
    unfold step
    split
    · exact ⟨_, rfl⟩
    · next i rest _ =>
      match i with
      | .hardReset => exact ⟨_, rfl⟩
      | .transaction (.hostRead _ _) => exact ⟨_, rfl⟩
      | .transaction (.hostWrite addr data) => exact hostWrite_next addr data _
  obtain ⟨t, ht⟩ := hnext
  simp only [stepTo, ht]

/-- A register is reached at its own offset alone (R35, R73). -/
theorem eq_of_targetOf_register {c : Config} {addr : Word} {r : Reg} (h : targetOf c addr = some (.register r)) :
    addr = BitVec.ofNat 32 (registerOffset r) := by
  unfold targetOf at h
  dsimp only at h
  split at h
  · obtain ⟨r', hr', hrr'⟩ := Option.map_eq_some_iff.mp h
    obtain rfl : r' = r := Target.register.inj hrr'
    have hoffset : registerOffset r' = addr.toNat := by simpa using List.find?_some hr'
    rw [hoffset, BitVec.ofNat_toNat, BitVec.setWidth_eq]
  · split at h
    · cases (Option.ite_none_right_eq_some.mp h).2
    · split at h
      · cases (Option.ite_none_right_eq_some.mp h).2
      · cases h

/-- The next command is of a kind when the next input writes its word to CMD, at 0x008. -/
theorem nextCommandIs_iff (kind : Instr → Bool) (s : State) :
    nextCommandIs kind s = true ↔ ∃ rest w i, s.inputs = .transaction (.hostWrite 0x008#32 (.word w)) :: rest ∧
      decode w = .ok i ∧ kind i = true := by
  unfold nextCommandIs
  split
  · next addr w rest hin =>
    rw [hin]
    cases hdec : decode w <;> simp [hdec]
  · next hother =>
    simp only [Bool.false_eq_true, false_iff]
    rintro ⟨rest, w, i, hin, -⟩
    exact hother _ _ _ hin

/-- The step that takes the write of a legal word to CMD runs its command and answers OK (R286). -/
theorem step_command {s t : State} {rest : List Input} {w : Word} {i : Instr}
    (hin : s.inputs = .transaction (.hostWrite 0x008#32 (.word w)) :: rest) (hdec : decode w = .ok i)
    (hstep : step s = .next t) : ∃ u, exec i (taken rest s) = .next u ∧ t = respond .okWrite u := by
  obtain ⟨u, hu⟩ := exec_next i (taken rest s)
  refine ⟨u, hu, ?_⟩
  rw [step_writeRegister (r := .CMD) rfl hin, writeRegister, execCommand_of_ok hdec, hu, answerWith_next] at hstep
  exact (Host.Outcome.next.inj hstep).symm

/-! ### The steps of a session (R190) -/

/-- The queue and the answers of the port are no part of the unpacker. -/
theorem KeepsUnpacker.around {s u : State} {rest : List Input} (h : KeepsUnpacker (taken rest s) u) (r : Response) :
    KeepsUnpacker s (respond r u) :=
  ⟨congrArg (respond r) h.part, h.drawn⟩

theorem writeStatus_keepsUnpacker (d : Word) (s : State) : KeepsUnpacker s (writeStatus d s) := by
  unfold writeStatus
  split <;> exact ⟨rfl, rfl⟩

/-- Within a session only UNPACK_NEXT moves the unpacker: the source is locked (R44, R77), and every other command
leaves it alone. -/
theorem step_keepsUnpacker {s t : State} (hstep : step s = .next t) (hs : s.uActive = true) (ht : t.uActive = true)
    (hnext : ¬ nextCommandIs (· == .unpackNext) s = true)
    (hbegin : ¬ (nextCommandIs isUnpackBegin s = true ∧ t.err = 0)) : KeepsUnpacker s t := by
  rcases step_cases hstep with ⟨-, rfl⟩ | ⟨rest, -, rfl⟩ | ⟨rest, addr, width, -, rfl⟩ |
    ⟨rest, addr, data, hin, hwrite⟩
  · exact ⟨rfl, rfl⟩
  · simp at ht
  · exact ⟨rfl, rfl⟩
  rcases hostWrite_cases hwrite with ⟨w, u, rfl, htarget, hu, rfl⟩ | ⟨d, rfl⟩ | ⟨d, rfl⟩ | ⟨d, rfl⟩ |
    ⟨d, hidle, -, rfl⟩ | ⟨i, b, hidle, -, rfl⟩ | rfl
  · obtain rfl := eq_of_targetOf_register htarget
    refine KeepsUnpacker.around (rest := rest) ?_ _
    rcases execCommand_cases w (taken rest s) with ⟨_, _, heq⟩ | ⟨i, hdec, heq⟩
    · obtain rfl : reported (taken rest s) 2 0 0 0 0 = u := by simpa [heq] using hu
      exact ⟨rfl, rfl⟩
    · have hkind (kind : Instr → Bool) (hi : kind i = true) : nextCommandIs kind s = true :=
        (nextCommandIs_iff kind s).mpr ⟨rest, w, i, hin, hdec, hi⟩
      refine exec_keepsUnpacker (heq ▸ hu) ht (fun hi => ?_) fun hi herr => ?_
      · exact hnext (hkind _ (by simp [hi]))
      · exact hbegin ⟨hkind _ hi, herr⟩
  · exact (writeStatus_keepsUnpacker d (taken rest s)).around _
  · exact ⟨rfl, rfl⟩
  · exact ⟨rfl, rfl⟩
  · exact absurd hs (by simpa using hidle)
  · exact absurd hs (by simpa using hidle)
  · exact ⟨rfl, rfl⟩

/-- An UNPACK_NEXT of a session delivers the first of the values left, or nothing once none is left. -/
theorem step_unpackNext {s t : State} (hs : StateSound s) (ha : s.uActive = true) (hstep : step s = .next t)
    (hnext : nextCommandIs (· == .unpackNext) s = true) :
    t.uRemain = s.uRemain ∧
      ((t.uValid = true ∧ undelivered s = t.rLo :: undelivered t) ∨
        (t.uValid = false ∧ undelivered s = [] ∧ undelivered t = [])) := by
  obtain ⟨rest, w, i, hin, hdec, hi⟩ := (nextCommandIs_iff _ s).mp hnext
  obtain rfl : i = .unpackNext := by simpa using hi
  obtain ⟨u, hu, rfl⟩ := step_command hin hdec hstep
  change execUnpackNext (taken rest s) = .next u at hu
  rcases Nat.lt_or_ge s.uPos.toNat (8 * s.srcLen.toNat) with hleft | hdone
  · rw [execUnpackNext_of_lt (s := taken rest s) ha hleft] at hu
    obtain rfl := Host.Outcome.next.inj hu
    exact ⟨rfl, .inl ⟨rfl, undelivered_of_lt (s := taken rest s) hs ha hleft⟩⟩
  · rw [execUnpackNext_of_le (s := taken rest s) ha hdone] at hu
    obtain rfl := Host.Outcome.next.inj hu
    have hnone := undelivered_of_le hs ha hdone
    exact ⟨rfl, .inr ⟨rfl, hnone, hnone⟩⟩

theorem UnpackLasts.active {k : Nat} {s : State} (h : UnpackLasts k s) : s.uActive = true := by
  cases k with
  | zero => exact h
  | succ k => exact h.1

/-- From any sound state of a session, its UNPACK_NEXT commands deliver the values left, one each, and U_REMAIN
stays. -/
theorem deliveredIn_eq_take {k : Nat} {s : State} (hs : StateSound s) (h : UnpackLasts k s) :
    deliveredIn k s = (undelivered s).take (nextsIn k s) ∧ (afterSteps k s).uRemain = s.uRemain := by
  induction k generalizing s with
  | zero => exact ⟨rfl, rfl⟩
  | succ k ih =>
    obtain ⟨ha, hbegin, hlasts⟩ := h
    have hstep := step_eq_stepTo s
    obtain ⟨hs', -⟩ := everyStepKeepsTheRegisterLaws s (stepTo s) hs hstep
    obtain ⟨hrest, hrestRemain⟩ := ih hs' hlasts
    by_cases hnext : nextCommandIs (· == .unpackNext) s = true
    · obtain ⟨hremain, ⟨hvalid, hleft⟩ | ⟨hvalid, hnone, hnone'⟩⟩ := step_unpackNext hs ha hstep hnext
      · simp [deliveredIn, nextsIn, afterSteps, hnext, hvalid, hrest, hrestRemain, hremain, hleft, Nat.add_comm 1]
      · simp [deliveredIn, nextsIn, afterSteps, hvalid, hrest, hrestRemain, hremain, hnone, hnone']
    · have hkept := step_keepsUnpacker hstep ha hlasts.active hnext hbegin
      simp [deliveredIn, nextsIn, afterSteps, hnext, hrest, hrestRemain, hkept.undelivered_eq, hkept.uRemain_eq]

/-- An UNPACK_BEGIN that reports no error has opened a session (R185). -/
theorem eq_of_execUnpackBegin_ok {n : BitVec 6} {wc : BitVec 2} {s t : State} (h : execUnpackBegin n wc s = .next t)
    (hok : t.err = 0) : t = succeeded (sessionOpened n wc s) := by
  rcases finish_cases h with ⟨e, -, rfl⟩ | ⟨u, hu, rfl⟩
  · cases e <;> simp [raiseError_eq] at hok
  · obtain ⟨-, hu⟩ := (ite_eq_iff.mp hu).resolve_left nofun
    obtain ⟨-, hu⟩ := (ite_eq_iff.mp hu).resolve_left nofun
    obtain rfl := Except.ok.inj hu
    rfl

/-- Settles O51: at UNPACK_BEGIN every value is left, and the run delivers them in order. -/
theorem unpackSessionsDeliverChunks : Obligations.UnpackSessionsDeliverChunks := by
  unfold Obligations.UnpackSessionsDeliverChunks
  intro s₀ s n wc k hs₀ hbegin hok hlasts
  obtain ⟨hs, -⟩ := exec_keepsLaws hs₀ hbegin
  obtain ⟨hdelivered, hremain⟩ := deliveredIn_eq_take hs hlasts
  have hsound := uRemain_eq hs hlasts.active
  obtain rfl := eq_of_execUnpackBegin_ok hbegin hok
  exact ⟨hdelivered, hremain ▸ hsound⟩

end Sys2Proof.Machine
end

section
/-! Proofs of the family 43_packer.md: the reference functions Conjoin and ConjoinRem bit by bit (R221, R223), and the
round trip with Chunks (R224). A byte of Conjoin is eight digits of the stream, so a list of bytes is a prefix of
Conjoin as soon as its bits are the stream's. -/

namespace Sys2Proof.Machine

/-! ### Conjoin, bit by bit (R221) -/

@[simp] theorem length_conjoin (v : List Word) (n : Nat) : (conjoin v n).length = ceilDiv8 (v.length * n) := by
  simp [conjoin]

/-- Cutting more bits off never lengthens the output. -/
theorem finalLength_le (bits cut : Nat) : finalLength bits cut ≤ ceilDiv8 bits := by
  unfold finalLength ceilDiv8
  omega

theorem length_conjoinRem (v : List Word) (n r : Nat) :
    (conjoinRem v n r).length = finalLength (v.length * n) r := by
  rw [conjoinRem, List.length_take, length_conjoin, Nat.min_eq_left (finalLength_le _ _)]

/-- With nothing to cut, ConjoinRem is Conjoin. -/
theorem conjoinRem_zero (v : List Word) (n : Nat) : conjoinRem v n 0 = conjoin v n :=
  List.take_of_length_le (length_conjoin v n).le

/-- A byte whose digits, from its top, are a stream's is the byte that Conjoin makes of them. -/
theorem byte_eq_ofNat_msbFirst {b : Byte} {bit : Nat → Bool} (h : ∀ t < 8, b.getLsbD (7 - t) = bit t) :
    b = BitVec.ofNat 8 (msbFirst 8 bit) := by
  apply BitVec.eq_of_getLsbD_eq
  intro i hi
  have hplace : 7 - (7 - i) = i := by omega
  have hdigit := h (7 - i) (by omega)
  rw [hplace] at hdigit
  rw [hdigit, BitVec.getLsbD_ofNat, testBit_msbFirst, decide_eq_true hi, Bool.true_and, Bool.true_and]

/-- Bytes that hold the values' stream are ConjoinRem, at its length. -/
theorem map_range_eq_conjoinRem {v : List Word} {n r : Nat} {f : Nat → Byte}
    (h : ∀ q < finalLength (v.length * n) r, ∀ t < 8, (f q).getLsbD (7 - t) = packedBit v n (8 * q + t)) :
    (List.range (finalLength (v.length * n) r)).map f = conjoinRem v n r := by
  rw [conjoinRem, conjoin, ← List.map_take, List.take_range, Nat.min_eq_left (finalLength_le _ _)]
  exact List.map_congr_left fun q hq => byte_eq_ofNat_msbFirst (h q (List.mem_range.mp hq))

/-! ### The round trip (R224) -/

/-- Packing the groups of a buffer gives the buffer's stream again. -/
theorem packedBit_chunks (buffer : Nat → Byte) {L n p : Nat} (hn1 : 1 ≤ n) (hn32 : n ≤ 32)
    (hp : p < chunkCount L n * n) : packedBit (chunks buffer L n) n p = streamBit buffer L p := by
  have hlength : (chunks buffer L n).length = chunkCount L n := by simp [chunks]
  have hgroup : p / n < chunkCount L n := Nat.div_lt_of_lt_mul (Nat.mul_comm n _ ▸ hp)
  have hdigit : p % n < n := Nat.mod_lt _ hn1
  have hvalue : (chunks buffer L n).getD (p / n) 0 = BitVec.ofNat 32 (chunk buffer L n (p / n)) := by
    simp [chunks, hgroup]
  have hplace : n - 1 - (n - 1 - p % n) = p % n := by omega
  rw [packedBit, hlength, decide_eq_true hp, Bool.true_and, hvalue, BitVec.getLsbD_ofNat, chunk, testBit_msbFirst,
    hplace, Nat.div_add_mod', decide_eq_true (by omega), decide_eq_true (by omega), Bool.true_and, Bool.true_and]

/-- Settles O42: ConjoinRem has `L` bytes, and their bits are those of the buffer's stream. -/
theorem conjoinRemOfChunksIsTheBuffer : Obligations.ConjoinRemOfChunksIsTheBuffer := by
  unfold Obligations.ConjoinRemOfChunksIsTheBuffer
  intro buffer L n hn1 hn32
  have hbits : remain L n + 8 * L = (chunks buffer L n).length * n := by
    simpa [chunks] using remain_add_eq L hn1
  have hfinal : finalLength ((chunks buffer L n).length * n) (remain L n) = L := by
    unfold finalLength ceilDiv8
    omega
  have hround := map_range_eq_conjoinRem (f := buffer) (v := chunks buffer L n) (n := n) (r := remain L n)
  rw [hfinal] at hround
  refine (hround fun q hq t ht => ?_).symm
  have hinside : 8 * q + t < 8 * L := by omega
  have hbyte : (8 * q + t) / 8 = q := by omega
  have hbit : (8 * q + t) % 8 = t := by omega
  rw [packedBit_chunks buffer hn1 hn32 (hinside.trans_le (remain_add_eq L hn1 ▸ Nat.le_add_left _ _)), streamBit,
    decide_eq_true hinside, Bool.true_and, hbyte, hbit]

/-- Settles O41: the length of the prefix, and what Conjoin's length has beyond it. -/
theorem conjoinRemDropsPadAndRemainBytes : Obligations.ConjoinRemDropsPadAndRemainBytes := by
  unfold Obligations.ConjoinRemDropsPadAndRemainBytes
  intro v n r _ _ _
  refine ⟨length_conjoinRem v n r, List.take_prefix _ _, ?_⟩
  rw [length_conjoinRem, length_conjoin, finalLength, ceilDiv8, ceilDiv8]
  omega

end Sys2Proof.Machine
end

section
/-! Proofs of the family 43_packer.md: the three commands of the packer (R226, R229, R232). Each check of a command
has its lemma, and the writes of a successful one have a name, so that the sessions can speak of them. -/

namespace Sys2Proof.Machine

/-! ### PACK_BEGIN (R226) -/

/-- The session that a successful PACK_BEGIN opens, with empty output (R226). -/
def packOpened (n rem : BitVec 6) (rm : Bool) (s : State) : State :=
  { s with
    pN := n, pRemV := rem, pRm := rm
    pRByte := 0, pRLen := 0, pCount := 0, pBits := 0
    dstLen := 0
    pActive := true, pDone := false }

/-- CONFIG on `remain` reports the operand field itself (R282). -/
theorem finish_remainError (s : State) (rem : BitVec 6) (n : Nat) :
    finish s (.error (remainError rem.toNat n)) =
      .next (reported s 1 2 (rem.setWidth 32) 0 (BitVec.ofNat 32 (n - 1))) := by
  rw [← BitVec.ofNat_toNat]
  rfl

section
variable {n rem : BitVec 6} {rm : Bool} (hform : RemainFieldLegal rem rm) (s : State)
include hform

theorem not_remainField_reserved : ¬ (rm = false ∧ rem ≠ 0#6) := fun ⟨hrm, hrem⟩ => hrem (hform hrm)

theorem execPackBegin_of_valid (hlow : 1 ≤ n.toNat) (hhigh : n.toNat ≤ 32)
    (hrem : rm = true → rem.toNat < n.toNat) :
    execPackBegin n rem rm s = .next (succeeded (packOpened n rem rm s)) := by
  rw [execPackBegin, if_neg (not_remainField_reserved hform), if_neg (by omega),
    if_neg fun ⟨hrm, hle⟩ => Nat.not_le.mpr (hrem hrm) hle]
  rfl

theorem execPackBegin_of_invalidWidth (h : n.toNat < 1 ∨ 32 < n.toNat) :
    execPackBegin n rem rm s = .next (reported s 1 1 (n.setWidth 32) 1 32) := by
  rw [execPackBegin, if_neg (not_remainField_reserved hform), if_pos h]
  exact finish_widthError s n 32

theorem execPackBegin_of_invalidRemain (hlow : 1 ≤ n.toNat) (hhigh : n.toNat ≤ 32) (hrm : rm = true)
    (hrem : n.toNat ≤ rem.toNat) :
    execPackBegin n rem rm s = .next (reported s 1 2 (rem.setWidth 32) 0 (BitVec.ofNat 32 (n.toNat - 1))) := by
  rw [execPackBegin, if_neg (not_remainField_reserved hform), if_neg (by omega), if_pos ⟨hrm, hrem⟩]
  exact finish_remainError s rem n.toNat

end

theorem decode_of_opcode_packBegin {w : Word} (h : opcode w = 0x30#8) : decode w = decodeP w := by
  simp [decode, h]

/-- The word of format P with every reserved bit 0 (R105). -/
theorem decode_packBeginWord (n : BitVec 6) {rem : BitVec 6} {rm : Bool} (hform : RemainFieldLegal rem rm) :
    decode (0x30#8 ++ 0#7 ++ BitVec.ofBool rm ++ 0#2 ++ rem ++ 0#2 ++ n) = .ok (.packBegin n rem rm) := by
  have hhigh := extractLsb'_groupWord_high (0x30#8 ++ 0#7 ++ BitVec.ofBool rm ++ 0#2) rem n
  have hopcode : opcode (0x30#8 ++ 0#7 ++ BitVec.ofBool rm ++ 0#2 ++ rem ++ 0#2 ++ n) = 0x30#8 :=
    (hhigh 10 8).trans <| (BitVec.extractLsb'_append_eq_of_le (by decide)).trans <|
      (BitVec.extractLsb'_append_eq_of_le (by decide)).trans BitVec.extractLsb'_append_eq_left
  have hlowReserved : (0x30#8 ++ 0#7 ++ BitVec.ofBool rm ++ 0#2 ++ rem ++ 0#2 ++ n).extractLsb' 14 2 = 0#2 :=
    (hhigh 0 2).trans BitVec.extractLsb'_append_eq_right
  have hhighReserved : (0x30#8 ++ 0#7 ++ BitVec.ofBool rm ++ 0#2 ++ rem ++ 0#2 ++ n).extractLsb' 17 7 = 0#7 :=
    (hhigh 3 7).trans <| (BitVec.extractLsb'_append_eq_of_le (by decide)).trans <|
      (BitVec.extractLsb'_append_eq_of_le (by decide)).trans BitVec.extractLsb'_append_eq_right
  have hrm : (0x30#8 ++ 0#7 ++ BitVec.ofBool rm ++ 0#2 ++ rem ++ 0#2 ++ n).getLsbD 16 = rm := by
    have hfield := (hhigh 2 1).trans <| (BitVec.extractLsb'_append_eq_of_le (Nat.le_refl 2)).trans
      BitVec.extractLsb'_append_eq_right
    simpa using congrArg (BitVec.getLsbD · 0) hfield
  rw [decode_of_opcode_packBegin hopcode, decodeP, extractLsb'_groupWord_n, extractLsb'_groupWord_field,
    extractLsb'_groupWord_reserved, hlowReserved, hhighReserved, hrm, if_neg (by simp),
    if_neg (not_remainField_reserved hform)]

/-- Settles O30: the checks of the width and then of `remain` decide between the session and CONFIG, and format P
refuses its reserved bits and REM without RM. -/
theorem packBeginOpensASessionOrRaisesConfig : Obligations.PackBeginOpensASessionOrRaisesConfig := by
  unfold Obligations.PackBeginOpensASessionOrRaisesConfig
  intro n rem rm
  refine ⟨fun hform => ⟨execPackBegin_of_valid hform, execPackBegin_of_invalidWidth hform,
    execPackBegin_of_invalidRemain hform, decode_packBeginWord n hform⟩,
    fun w hop hbits => execCommand_of_refused ?_⟩
  rw [decode_of_opcode_packBegin hop]
  exact (refused_decodeP_iff w).mpr hbits

/-! ### PACK_PUSH (R229) -/

/-- The session after a push that fits (R229). -/
def pushed (s : State) : State :=
  { s with
    dst := Memory.writeAll s.dst s.dstLen.toNat (pushBytes s)
    dstLen := BitVec.ofNat 25 (s.dstLen.toNat + readyBytes s)
    pRByte := byteOfWindow (pushWindow s) (readyBytes s)
    pRLen := BitVec.ofNat 3 (readyBits s % 8)
    pCount := s.pCount + 1
    pBits := s.pBits + s.pN.setWidth 32 }

theorem execPackPush_of_fits {s : State} (ha : s.pActive = true)
    (h : s.dstLen.toNat + readyBytes s ≤ s.cfg.dstBytes) : execPackPush s = .next (succeeded (pushed s)) := by
  rw [execPackPush, if_neg (by simp [ha]), if_neg (Nat.not_lt.mpr h)]
  rfl

theorem execPackPush_of_full {s : State} (ha : s.pActive = true)
    (h : s.cfg.dstBytes < s.dstLen.toNat + readyBytes s) : execPackPush s = .next (reported s 5 0 0 0 0) := by
  rw [execPackPush, if_neg (by simp [ha]), if_pos h]
  rfl

theorem execPackPush_of_idle {s : State} (ha : s.pActive = false) :
    execPackPush s = .next (reported s 3 0 0 0 0) := by
  rw [execPackPush, if_pos ha]
  rfl

/-- A byte of a window is the field of its eight bits. -/
theorem byteOfWindow_eq_extractLsb' (win : DWord) (j : Nat) : byteOfWindow win j = win.extractLsb' (56 - 8 * j) 8 := by
  apply BitVec.eq_of_getLsbD_eq
  intro i _
  rw [getLsbD_byteOfWindow, BitVec.getLsbD_extractLsb']

/-- DST after a push: the window's whole bytes from DST_LEN on, every other byte as before. -/
theorem dstByte_pushed (s : State) (a : Nat) :
    dstByte (pushed s) a =
      if s.dstLen.toNat ≤ a ∧ a < s.dstLen.toNat + readyBytes s then
        byteOfWindow (pushWindow s) (a - s.dstLen.toNat)
      else dstByte s a := by
  unfold dstByte pushed
  rw [find_writeAll, length_pushBytes]
  split
  · next hin =>
    have hplace : a - s.dstLen.toNat < readyBytes s := by omega
    simp [pushBytes, hplace]
  · rfl

/-- The length after a push that fits DST_BYTES fits its register (R12, R46). -/
theorem dstLen_pushed {s : State} (hc : s.cfg.Valid) (h : s.dstLen.toNat + readyBytes s ≤ s.cfg.dstBytes) :
    (pushed s).dstLen.toNat = s.dstLen.toNat + readyBytes s := by
  obtain ⟨-, -, -, hcap⟩ := hc
  exact toNat_ofNat_of_lt (by omega)

theorem pRLen_pushed (s : State) : (pushed s).pRLen.toNat = readyBits s % 8 :=
  toNat_ofNat_of_lt (Nat.mod_lt _ (by decide))

theorem decode_of_opcode_packPush {w : Word} (h : opcode w = 0x31#8) : decode w = decodeZ w .packPush := by
  simp [decode, h]

/-- Settles O31: the three cases of the command, with DST read byte by byte, and format Z of its word. -/
theorem packPushPacksTheOperand : Obligations.PackPushPacksTheOperand := by
  unfold Obligations.PackPushPacksTheOperand
  refine ⟨fun s hc ha hfits => ⟨_, execPackPush_of_fits ha hfits, fun j hj => ?_, fun a ha => ?_,
      dstLen_pushed hc hfits, byteOfWindow_eq_extractLsb' _ _, pRLen_pushed s, rfl⟩,
    fun s => execPackPush_of_idle, fun s => execPackPush_of_full, rfl, fun x hx => execCommand_of_refused ?_⟩
  · refine (dstByte_pushed s _).trans ?_
    rw [if_pos ⟨Nat.le_add_right _ j, Nat.add_lt_add_left hj _⟩, Nat.add_sub_cancel_left, byteOfWindow_eq_extractLsb']
    rfl
  · refine (dstByte_pushed s a).trans (if_neg ?_)
    unfold readyBytes readyBits
    omega
  · rw [decode_of_opcode_packPush (opcode_of_append _ x)]
    exact refused_decodeZ_append _ hx _

/-! ### PACK_END (R232) -/

/-- The session as PACK_END closes it (R232). -/
def packClosed (s : State) : State :=
  { s with
    dst := flushed s, dstLen := BitVec.ofNat 25 (packFinal s)
    pRByte := 0, pRLen := 0, pActive := false, pDone := true }

theorem execPackEnd_of_fits {s : State} (ha : s.pActive = true) (h : packFinal s ≤ s.cfg.dstBytes) :
    execPackEnd s = .next (succeeded (packClosed s)) := by
  rw [execPackEnd_eq, if_neg (by simp [ha]), if_neg (Nat.not_lt.mpr h)]
  rfl

theorem execPackEnd_of_full {s : State} (ha : s.pActive = true) (h : s.cfg.dstBytes < packFinal s) :
    execPackEnd s = .next (reported s 5 0 0 0 0) := by
  rw [execPackEnd_eq, if_neg (by simp [ha]), if_pos h]
  rfl

theorem execPackEnd_of_idle {s : State} (ha : s.pActive = false) : execPackEnd s = .next (reported s 3 0 0 0 0) := by
  rw [execPackEnd_eq, if_pos ha]
  rfl

/-- DST after PACK_END: the remainder byte at the old DST_LEN when the final length needs it, every other byte as
before. -/
theorem dstByte_packClosed (s : State) (a : Nat) :
    dstByte (packClosed s) a =
      if s.dstLen.toNat < packFinal s ∧ a = s.dstLen.toNat then s.pRByte else dstByte s a := by
  unfold dstByte packClosed flushed
  by_cases hflush : s.dstLen.toNat < packFinal s
  · rw [if_pos hflush, find_write]
    by_cases ha : a = s.dstLen.toNat <;> simp [hflush, ha]
  · simp [hflush]

/-- The final length within DST_BYTES fits its register (R12, R46). -/
theorem dstLen_packClosed {s : State} (hc : s.cfg.Valid) (h : packFinal s ≤ s.cfg.dstBytes) :
    (packClosed s).dstLen.toNat = packFinal s := by
  obtain ⟨-, -, -, hcap⟩ := hc
  exact toNat_ofNat_of_lt (by omega)

theorem decode_of_opcode_packEnd {w : Word} (h : opcode w = 0x32#8) : decode w = decodeZ w .packEnd := by
  simp [decode, h]

/-- Settles O32: the three cases of the command, with DST read byte by byte, and format Z of its word. -/
theorem packEndFlushesTruncatesAndCloses : Obligations.PackEndFlushesTruncatesAndCloses := by
  unfold Obligations.PackEndFlushesTruncatesAndCloses
  refine ⟨fun s F hc ha hF => ?_, fun s => execPackEnd_of_idle, rfl, fun x hx => execCommand_of_refused ?_⟩
  · obtain rfl : F = packFinal s := hF
    refine ⟨fun hfits => ⟨_, execPackEnd_of_fits ha hfits, dstLen_packClosed hc hfits, fun hflush => ?_,
      fun a hkept => ?_, rfl⟩, execPackEnd_of_full ha⟩
    · exact (dstByte_packClosed s _).trans (if_pos ⟨hflush, rfl⟩)
    · exact (dstByte_packClosed s a).trans (if_neg (by omega))
  · rw [decode_of_opcode_packEnd (opcode_of_append _ x)]
    exact refused_decodeZ_append _ hx _

end Sys2Proof.Machine
end

section
/-! Proofs of the family 43_packer.md: the pack sessions (R230, R233). In a sound state a successful PACK_PUSH puts its
value's bits after the stream that DST and the remainder byte hold, every other step of the session leaves the packer
as it was, and an induction over the run puts the two together; PACK_END then shows the stream as bytes. -/

namespace Sys2Proof.Machine

/-! ### Successful commands -/

/-- A command that reports no error has made its writes (R287, R288). -/
theorem eq_succeeded_of_finish {s t : State} {r : Except CommandError State} (h : finish s r = .next t)
    (hok : t.err = 0) : ∃ u, r = .ok u ∧ t = succeeded u := by
  rcases finish_cases h with ⟨e, -, rfl⟩ | hdone
  · cases e <;> simp [raiseError_eq] at hok
  · exact hdone

/-- A check that raised no error has been passed. -/
theorem of_check_eq_ok {c : Prop} [Decidable c] {e : CommandError} {r : Except CommandError State} {u : State}
    (h : (if c then .error e else r) = .ok u) : ¬ c ∧ r = .ok u :=
  (ite_eq_iff.mp h).resolve_left nofun

theorem eq_of_execPackBegin_ok {n rem : BitVec 6} {rm : Bool} {s t : State}
    (h : execPackBegin n rem rm s = .next t) (hok : t.err = 0) : t = succeeded (packOpened n rem rm s) := by
  obtain ⟨u, hu, rfl⟩ := eq_succeeded_of_finish h hok
  obtain ⟨-, hu⟩ := of_check_eq_ok hu
  obtain ⟨-, hu⟩ := of_check_eq_ok hu
  obtain ⟨-, hu⟩ := of_check_eq_ok hu
  obtain rfl := Except.ok.inj hu
  rfl

theorem eq_of_execPackPush_ok {s t : State} (h : execPackPush s = .next t) (hok : t.err = 0) :
    s.dstLen.toNat + readyBytes s ≤ s.cfg.dstBytes ∧ t = succeeded (pushed s) := by
  obtain ⟨u, hu, rfl⟩ := eq_succeeded_of_finish h hok
  obtain ⟨-, hu⟩ := of_check_eq_ok hu
  obtain ⟨hfits, hu⟩ := of_check_eq_ok hu
  obtain rfl := Except.ok.inj hu
  exact ⟨Nat.le_of_not_lt hfits, rfl⟩

theorem eq_of_execPackEnd_ok {s t : State} (h : execPackEnd s = .next t) (hok : t.err = 0) :
    packFinal s ≤ s.cfg.dstBytes ∧ t = succeeded (packClosed s) := by
  rw [execPackEnd_eq] at h
  obtain ⟨u, hu, rfl⟩ := eq_succeeded_of_finish h hok
  obtain ⟨-, hu⟩ := of_check_eq_ok hu
  obtain ⟨hfits, hu⟩ := of_check_eq_ok hu
  obtain rfl := Except.ok.inj hu
  exact ⟨Nat.le_of_not_lt hfits, rfl⟩

/-! ### The registers of a sound session (R51 to R55) -/

section
variable {s : State} (hs : StateSound s) (ha : s.pActive = true)
include hs ha

theorem pN_range : 1 ≤ s.pN.toNat ∧ s.pN.toNat ≤ 32 := by
  obtain ⟨-, -, -, -, -, -, ⟨-, hp⟩⟩ := hs
  obtain ⟨-, hn1, hn32, -⟩ := hp ha
  exact ⟨hn1, hn32⟩

theorem pBits_eq_mul : s.pBits.toNat = s.pCount.toNat * s.pN.toNat := by
  obtain ⟨-, -, -, -, -, -, ⟨-, hp⟩⟩ := hs
  obtain ⟨-, -, -, -, -, hbits, -⟩ := hp ha
  exact hbits

theorem dstLen_eq_div : s.dstLen.toNat = s.pBits.toNat / 8 := by
  obtain ⟨-, -, -, -, -, -, ⟨-, hp⟩⟩ := hs
  obtain ⟨-, -, -, -, -, -, hlen, -⟩ := hp ha
  exact hlen

theorem pRLen_eq_mod : s.pRLen.toNat = s.pBits.toNat % 8 := by
  obtain ⟨-, -, -, -, -, -, ⟨-, hp⟩⟩ := hs
  obtain ⟨-, -, -, -, -, -, -, hrlen⟩ := hp ha
  exact hrlen

/-- The remainder's length is a multiple of `gcd(n, 8)`, as P_BITS is (R230). -/
theorem gcd_dvd_pRLen : Nat.gcd s.pN.toNat 8 ∣ s.pRLen.toNat := by
  rw [pRLen_eq_mod hs ha, Nat.dvd_mod_iff (Nat.gcd_dvd_right _ _), pBits_eq_mul hs ha]
  exact Dvd.dvd.mul_left (Nat.gcd_dvd_left _ _) _

/-- At most 38 bits are ready after a push: at the width 32 the remainder is empty (R230). -/
theorem readyBits_le : readyBits s ≤ 38 := by
  obtain ⟨-, hn32⟩ := pN_range hs ha
  have hgcd := gcd_dvd_pRLen hs ha
  have hrlen : s.pRLen.toNat < 8 := s.pRLen.isLt
  unfold readyBits
  rcases Nat.lt_or_eq_of_le hn32 with hlt | heq
  · omega
  · rw [heq] at hgcd
    have hempty : s.pRLen.toNat = 0 := Nat.eq_zero_of_dvd_of_lt hgcd hrlen
    omega

/-- P_COUNT and P_BITS do not wrap (R53, R54). -/
theorem pBits_pushed : (pushed s).pBits.toNat = s.pBits.toNat + s.pN.toNat := by
  have hbits := pBits_lt hs ha
  obtain ⟨-, hn32⟩ := pN_range hs ha
  obtain ⟨⟨-, -, -, hcap⟩, -⟩ := hs
  exact toNat_add_width _ _ (by omega)

theorem pCount_pushed : (pushed s).pCount.toNat = s.pCount.toNat + 1 := by
  have hbits := pBits_lt hs ha
  have hcount : s.pCount.toNat ≤ s.pBits.toNat :=
    pBits_eq_mul hs ha ▸ Nat.le_mul_of_pos_right _ (pN_range hs ha).1
  obtain ⟨⟨-, -, -, hcap⟩, -⟩ := hs
  exact BitVec.toNat_add_of_lt (show s.pCount.toNat + 1 < 2 ^ 32 by omega)

end

/-! ### A push appends its value to the stream (R230) -/

/-- The stream of one more value is the stream so far, and then the value's bits. -/
theorem packedBit_append (v : List Word) (x : Word) {n p : Nat} (hp : p < v.length * n + n) :
    packedBit (v ++ [x]) n p =
      if p < v.length * n then packedBit v n p else x.getLsbD (n - 1 - (p - v.length * n)) := by
  have hinside : p < (v ++ [x]).length * n := by rwa [List.length_append, Nat.add_mul, List.length_singleton, one_mul]
  rw [packedBit, decide_eq_true hinside, Bool.true_and]
  split
  · next hold =>
    have hvalue : p / n < v.length := Nat.div_lt_of_lt_mul (Nat.mul_comm n _ ▸ hold)
    rw [packedBit, decide_eq_true hold, Bool.true_and, List.getD_append _ _ _ _ hvalue]
  · next hnew =>
    obtain ⟨d, rfl⟩ := Nat.exists_eq_add_of_le (Nat.le_of_not_lt hnew)
    have hd : d < n := by omega
    have hvalue : (v.length * n + d) / n = v.length := Nat.div_eq_of_lt_le (by omega) (by rw [Nat.succ_mul]; omega)
    have hdigit : (v.length * n + d) % n = d := by rw [Nat.mul_add_mod', Nat.mod_eq_of_lt hd]
    rw [hvalue, hdigit, Nat.add_sub_cancel_left]
    simp

/-- After a push the bits from the old DST_LEN on are those of its window, whether they went to DST or stayed in the
remainder byte. -/
theorem packedSoFar_pushed {s : State} (hc : s.cfg.Valid) (hfits : s.dstLen.toNat + readyBytes s ≤ s.cfg.dstBytes)
    {k : Nat} (hk : k < 8 * readyBytes s + 8) (hk63 : k ≤ 63) :
    packedSoFar (pushed s) (8 * s.dstLen.toNat + k) = (pushWindow s).getLsbD (63 - k) := by
  have hbyte : (8 * s.dstLen.toNat + k) / 8 = s.dstLen.toNat + k / 8 := by omega
  have hbit : (8 * s.dstLen.toNat + k) % 8 = k % 8 := by omega
  have hplace : 56 - 8 * (k / 8) + (7 - k % 8) = 63 - k := by omega
  have hwindow : (byteOfWindow (pushWindow s) (k / 8)).getLsbD (7 - k % 8) = (pushWindow s).getLsbD (63 - k) := by
    rw [getLsbD_byteOfWindow, decide_eq_true (by omega), Bool.true_and, hplace]
  rw [packedSoFar, dstLen_pushed hc hfits, hbyte, hbit, ← hwindow]
  split
  · rw [dstByte_pushed, if_pos (by omega), Nat.add_sub_cancel_left]
  · have hlast : readyBytes s = k / 8 := by omega
    exact congrArg (fun j => (byteOfWindow (pushWindow s) j).getLsbD (7 - k % 8)) hlast

/-- A push leaves the whole bytes of before. -/
theorem packedSoFar_pushed_of_lt {s : State} (hc : s.cfg.Valid)
    (hfits : s.dstLen.toNat + readyBytes s ≤ s.cfg.dstBytes) {p : Nat} (hp : p / 8 < s.dstLen.toNat) :
    packedSoFar (pushed s) p = packedSoFar s p := by
  rw [packedSoFar, packedSoFar, dstLen_pushed hc hfits, if_pos (by omega), if_pos hp, dstByte_pushed,
    if_neg (by omega)]

/-- A push that fits leaves the stream of one more value (R230). -/
theorem holdsTheStreamOf_pushed {s : State} {v : List Word} (hs : StateSound s) (ha : s.pActive = true)
    (hfits : s.dstLen.toNat + readyBytes s ≤ s.cfg.dstBytes) (hv : HoldsTheStreamOf v s) :
    HoldsTheStreamOf (v ++ [s.xLo]) (pushed s) := by
  obtain ⟨hcount, hstream⟩ := hv
  have hbits : s.pBits.toNat = v.length * s.pN.toNat := hcount ▸ pBits_eq_mul hs ha
  have hlen := dstLen_eq_div hs ha
  have hrlen := pRLen_eq_mod hs ha
  have hready := readyBits_le hs ha
  obtain ⟨-, hn32⟩ := pN_range hs ha
  have ⟨hc, _⟩ := hs
  refine ⟨by rw [pCount_pushed hs ha, ← hcount, List.length_append, List.length_singleton], fun p hp => ?_⟩
  rw [pBits_pushed hs ha] at hp
  change _ = packedBit _ s.pN.toNat p
  rw [packedBit_append v s.xLo (hbits ▸ hp), ← hbits]
  rcases Nat.lt_or_ge (p / 8) s.dstLen.toNat with hold | hnew
  · have hbefore : p < s.pBits.toNat := by omega
    rw [packedSoFar_pushed_of_lt hc hfits hold, if_pos hbefore, hstream p hbefore]
  · obtain ⟨k, rfl⟩ : ∃ k, p = 8 * s.dstLen.toNat + k := Nat.exists_eq_add_of_le (by omega)
    have hk : k < readyBits s := by unfold readyBits; omega
    rw [packedSoFar_pushed hc hfits (by unfold readyBytes; omega) (by omega), pushWindow,
      getLsbD_merge _ _ (by omega) hn32 (by omega)]
    unfold readyBits at hk
    split
    · next hbefore =>
      have hremainder : k < s.pRLen.toNat := by omega
      have hbit : (8 * s.dstLen.toNat + k) % 8 = k := by omega
      rw [← hstream _ hbefore, packedSoFar, if_neg (by omega), hbit]
      simp [hremainder, Nat.not_le.mpr hremainder]
    · have hvalue : s.pRLen.toNat ≤ k ∧ k < s.pRLen.toNat + s.pN.toNat := by omega
      have hplace : 8 * s.dstLen.toNat + k - s.pBits.toNat = k - s.pRLen.toNat := by omega
      simp [hvalue, hplace, Nat.not_lt.mpr hvalue.1]

/-! ### The steps that leave the packer alone -/

/-- `t` has the packer's part of `s` (R192), and the bytes drawn with it (R62). -/
structure KeepsPacker (s t : State) : Prop where
  part : withPackerOf s t = t
  drawn : t.powerOns = s.powerOns

/-- The operands of the session, which PACK_BEGIN latches (R226). -/
structure SameOperands (s t : State) : Prop where
  pN : t.pN = s.pN
  pRemV : t.pRemV = s.pRemV
  pRm : t.pRm = s.pRm

theorem SameOperands.trans {s t u : State} (hst : SameOperands s t) (htu : SameOperands t u) : SameOperands s u :=
  ⟨htu.pN.trans hst.pN, htu.pRemV.trans hst.pRemV, htu.pRm.trans hst.pRm⟩

namespace KeepsPacker
variable {s t : State} (h : KeepsPacker s t)
include h

theorem sameOperands : SameOperands s t :=
  ⟨(congrArg State.pN h.part).symm, (congrArg State.pRemV h.part).symm, (congrArg State.pRm h.part).symm⟩

theorem dstByte_eq : dstByte t = dstByte s := dstByte_congr (congrArg State.dst h.part).symm h.drawn

theorem packedSoFar_eq : packedSoFar t = packedSoFar s := by
  have hlen : t.dstLen = s.dstLen := (congrArg State.dstLen h.part).symm
  have hbyte : t.pRByte = s.pRByte := (congrArg State.pRByte h.part).symm
  funext p
  rw [packedSoFar, packedSoFar, hlen, hbyte, h.dstByte_eq]

theorem holdsTheStreamOf {v : List Word} (hv : HoldsTheStreamOf v s) : HoldsTheStreamOf v t := by
  have hcount : t.pCount = s.pCount := (congrArg State.pCount h.part).symm
  have hbits : t.pBits = s.pBits := (congrArg State.pBits h.part).symm
  simpa only [HoldsTheStreamOf, hcount, hbits, h.sameOperands.pN, h.packedSoFar_eq] using hv

end KeepsPacker

theorem raiseError_keepsPacker (e : CommandError) (s : State) : KeepsPacker s (raiseError e s) := by
  cases e <;> exact ⟨rfl, rfl⟩

/-- What a command that answers `t` may do: raise any error, or make writes that keep the packer's part. -/
def ResultKeepsPacker (s t : State) : Except CommandError State → Prop
  | .error _ => True
  | .ok u => t = succeeded u → KeepsPacker s u

theorem ResultKeepsPacker.check {s t : State} {r : Except CommandError State} {c : Prop} [Decidable c]
    {e : CommandError} (hr : ResultKeepsPacker s t r) : ResultKeepsPacker s t (if c then .error e else r) := by
  split
  · trivial
  · exact hr

theorem finish_keepsPacker {s t : State} {r : Except CommandError State} (h : finish s r = .next t)
    (hr : ResultKeepsPacker s t r) : KeepsPacker s t := by
  rcases finish_cases h with ⟨e, rfl, rfl⟩ | ⟨u, rfl, rfl⟩
  · exact raiseError_keepsPacker e s
  · obtain ⟨hpart, hdrawn⟩ := hr rfl
    exact ⟨congrArg succeeded hpart, hdrawn⟩

/-- A command after which a session is open, other than a successful PACK_PUSH or PACK_BEGIN, leaves the packer as it
was (R192, R227). -/
theorem exec_keepsPacker {i : Instr} {s t : State} (h : exec i s = .next t) (ha : t.pActive = true)
    (hpush : i = .packPush → t.err ≠ 0) (hbegin : isPackBegin i = true → t.err ≠ 0) : KeepsPacker s t := by
  cases i with
  | nop => exact finish_keepsPacker (r := .ok s) h fun _ => ⟨rfl, rfl⟩
  | softReset => exact finish_keepsPacker (r := .ok (clearRegisters s)) h fun ht => by simp [ht, succeeded] at ha
  | window off => exact finish_keepsPacker h (.check fun _ => ⟨rfl, rfl⟩)
  | sliceExtract n off3 => exact finish_keepsPacker h (.check fun _ => ⟨rfl, rfl⟩)
  | sliceMerge n rl rb => exact finish_keepsPacker h (.check fun _ => ⟨rfl, rfl⟩)
  | unpackBegin n wc => exact finish_keepsPacker h (.check (.check fun _ => ⟨rfl, rfl⟩))
  | unpackNext => exact finish_keepsPacker h (.check (by split <;> exact fun _ => ⟨rfl, rfl⟩))
  | unpackEnd => exact finish_keepsPacker h (.check fun _ => ⟨rfl, rfl⟩)
  | packBegin n rem rm =>
    exact finish_keepsPacker h (.check (.check (.check fun ht => absurd (congrArg State.err ht) (hbegin rfl))))
  | packPush => exact finish_keepsPacker h (.check (.check fun ht => absurd (congrArg State.err ht) (hpush rfl)))
  | packEnd => exact finish_keepsPacker h (.check (.check fun ht => by simp [ht] at ha))

/-- The queue and the answers of the port are no part of the packer. -/
theorem KeepsPacker.around {s u : State} {rest : List Input} (h : KeepsPacker (taken rest s) u) (r : Response) :
    KeepsPacker s (respond r u) :=
  ⟨congrArg (respond r) h.part, h.drawn⟩

theorem writeStatus_keepsPacker (d : Word) (s : State) : KeepsPacker s (writeStatus d s) := by
  unfold writeStatus
  split <;> exact ⟨rfl, rfl⟩

/-- Within a session only a successful PACK_PUSH moves the packer: the host writes none of it (R77), and every other
command leaves it alone. -/
theorem step_keepsPacker {s t : State} (hstep : step s = .next t) (ht : t.pActive = true)
    (hpush : ¬ (nextCommandIs (· == .packPush) s = true ∧ t.err = 0))
    (hbegin : ¬ (nextCommandIs isPackBegin s = true ∧ t.err = 0)) : KeepsPacker s t := by
  rcases step_cases hstep with ⟨-, rfl⟩ | ⟨rest, -, rfl⟩ | ⟨rest, addr, width, -, rfl⟩ |
    ⟨rest, addr, data, hin, hwrite⟩
  · exact ⟨rfl, rfl⟩
  · simp at ht
  · exact ⟨rfl, rfl⟩
  rcases hostWrite_cases hwrite with ⟨w, u, rfl, htarget, hu, rfl⟩ | ⟨d, rfl⟩ | ⟨d, rfl⟩ | ⟨d, rfl⟩ |
    ⟨d, -, -, rfl⟩ | ⟨i, b, -, -, rfl⟩ | rfl
  · obtain rfl := eq_of_targetOf_register htarget
    refine KeepsPacker.around (rest := rest) ?_ _
    rcases execCommand_cases w (taken rest s) with ⟨_, _, heq⟩ | ⟨i, hdec, heq⟩
    · obtain rfl : reported (taken rest s) 2 0 0 0 0 = u := by simpa [heq] using hu
      exact ⟨rfl, rfl⟩
    · have hkind (kind : Instr → Bool) (hi : kind i = true) : nextCommandIs kind s = true :=
        (nextCommandIs_iff kind s).mpr ⟨rest, w, i, hin, hdec, hi⟩
      refine exec_keepsPacker (heq ▸ hu) ht (fun hi herr => ?_) fun hi herr => ?_
      · exact hpush ⟨hkind _ (by simp [hi]), herr⟩
      · exact hbegin ⟨hkind _ hi, herr⟩
  · exact (writeStatus_keepsPacker d (taken rest s)).around _
  all_goals exact ⟨rfl, rfl⟩

/-! ### The steps of a session (R230) -/

/-- A successful PACK_PUSH of a session is a push that fits. -/
theorem step_packPush {s t : State} (hstep : step s = .next t) (hpush : nextCommandIs (· == .packPush) s = true)
    (hok : t.err = 0) : s.dstLen.toNat + readyBytes s ≤ s.cfg.dstBytes ∧
      ∃ rest, t = respond .okWrite (succeeded (pushed (taken rest s))) := by
  obtain ⟨rest, w, i, hin, hdec, hi⟩ := (nextCommandIs_iff _ s).mp hpush
  obtain rfl : i = .packPush := by simpa using hi
  obtain ⟨u, hu, rfl⟩ := step_command hin hdec hstep
  obtain ⟨hfits, rfl⟩ := eq_of_execPackPush_ok hu hok
  exact ⟨hfits, rest, rfl⟩

/-- One step of a session appends the value it pushes, if any, to the stream, and keeps the operands. -/
theorem step_holdsTheStreamOf {s t : State} {v : List Word} (hs : StateSound s) (ha : s.pActive = true)
    (hv : HoldsTheStreamOf v s) (hstep : step s = .next t) (ht : t.pActive = true)
    (hbegin : ¬ (nextCommandIs isPackBegin s = true ∧ t.err = 0)) :
    HoldsTheStreamOf (v ++ if nextCommandIs (· == .packPush) s && t.err == 0 then [s.xLo] else []) t ∧
      SameOperands s t := by
  by_cases hpush : nextCommandIs (· == .packPush) s = true ∧ t.err = 0
  · rw [if_pos (by simpa using hpush)]
    obtain ⟨hfits, rest, rfl⟩ := step_packPush hstep hpush.1 hpush.2
    exact ⟨holdsTheStreamOf_pushed (s := taken rest s) hs ha hfits hv, rfl, rfl, rfl⟩
  · rw [if_neg (by simpa using hpush), List.append_nil]
    have hkept := step_keepsPacker hstep ht hpush hbegin
    exact ⟨hkept.holdsTheStreamOf hv, hkept.sameOperands⟩

theorem PackLasts.active {k : Nat} {s : State} (h : PackLasts k s) : s.pActive = true := by
  cases k with
  | zero => exact h
  | succ k => exact h.1

/-- From any sound state of a session, its end is a sound state of the session, with the same operands and the stream
of the values pushed since. -/
theorem afterSteps_holdsTheStreamOf {k : Nat} {s : State} {v : List Word} (hs : StateSound s) (h : PackLasts k s)
    (hv : HoldsTheStreamOf v s) :
    StateSound (afterSteps k s) ∧ (afterSteps k s).pActive = true ∧ SameOperands s (afterSteps k s) ∧
      HoldsTheStreamOf (v ++ pushedIn k s) (afterSteps k s) := by
  induction k generalizing s v with
  | zero => exact ⟨hs, h, ⟨rfl, rfl, rfl⟩, by rwa [pushedIn, List.append_nil]⟩
  | succ k ih =>
    obtain ⟨ha, hbegin, hlasts⟩ := h
    have hstep := step_eq_stepTo s
    obtain ⟨hs', -⟩ := everyStepKeepsTheRegisterLaws s (stepTo s) hs hstep
    obtain ⟨hv', hsame⟩ := step_holdsTheStreamOf hs ha hv hstep hlasts.active hbegin
    obtain ⟨hsound, hactive, hrest, hstream⟩ := ih hs' hlasts hv'
    rw [List.append_assoc] at hstream
    exact ⟨hsound, hactive, hsame.trans hrest, hstream⟩

/-- At PACK_BEGIN no value has been pushed. -/
theorem holdsTheStreamOf_packOpened (n rem : BitVec 6) (rm : Bool) (s : State) :
    HoldsTheStreamOf [] (packOpened n rem rm s) :=
  ⟨rfl, fun _ hp => absurd hp (Nat.not_lt_zero _)⟩

/-- The end of a session that PACK_BEGIN opened. -/
theorem packSession_end {s₀ s : State} {n rem : BitVec 6} {rm : Bool} {k : Nat} (hs₀ : StateSound s₀)
    (hbegin : exec (.packBegin n rem rm) s₀ = .next s) (hok : s.err = 0) (hlasts : PackLasts k s) :
    StateSound (afterSteps k s) ∧ (afterSteps k s).pActive = true ∧
      SameOperands (succeeded (packOpened n rem rm s₀)) (afterSteps k s) ∧
      HoldsTheStreamOf (pushedIn k s) (afterSteps k s) := by
  obtain ⟨hs, -⟩ := exec_keepsLaws hs₀ hbegin
  obtain rfl := eq_of_execPackBegin_ok hbegin hok
  exact afterSteps_holdsTheStreamOf hs hlasts (holdsTheStreamOf_packOpened n rem rm s₀)

/-- Settles O53: the registers of a sound session, and the stream at the end of a run. -/
theorem packSessionsHoldTheStreamPushed : Obligations.PackSessionsHoldTheStreamPushed := by
  unfold Obligations.PackSessionsHoldTheStreamPushed
  refine ⟨fun s hs ha => ?_, fun s₀ s n rem rm k hs₀ hbegin hok hlasts => ?_⟩
  · obtain ⟨hn1, -⟩ := pN_range hs ha
    have hready : s.pN.toNat + s.pRLen.toNat ≤ 38 := readyBits_le hs ha
    exact ⟨by omega, hready, by omega, pRLen_eq_mod hs ha, gcd_dvd_pRLen hs ha⟩
  · obtain ⟨hs, ha, -, hstream⟩ := packSession_end hs₀ hbegin hok hlasts
    exact ⟨hstream, dstLen_eq_div hs ha, pRLen_eq_mod hs ha⟩

/-! ### PACK_END shows the stream (R232, R233) -/

section
variable {s : State} {v : List Word} (hs : StateSound s) (ha : s.pActive = true) (hv : HoldsTheStreamOf v s)
include hs ha hv

theorem pBits_eq_length_mul : s.pBits.toNat = v.length * s.pN.toNat := by
  obtain ⟨hcount, -⟩ := hv
  exact hcount ▸ pBits_eq_mul hs ha

/-- Past the stream both the remainder byte and the values' stream are 0, so they agree in the whole last byte (R52). -/
theorem packedSoFar_eq_packedBit {p : Nat} (hp : p / 8 ≤ s.dstLen.toNat) :
    packedSoFar s p = packedBit v s.pN.toNat p := by
  have hlen := dstLen_eq_div hs ha
  have hrlen := pRLen_eq_mod hs ha
  rcases Nat.lt_or_ge p s.pBits.toNat with hin | hpast
  · obtain ⟨-, hstream⟩ := hv
    exact hstream p hin
  · have hlast : ¬ p / 8 < s.dstLen.toNat := by omega
    have hpacked : ¬ p < v.length * s.pN.toNat := pBits_eq_length_mul hs ha hv ▸ Nat.not_lt.mpr hpast
    obtain ⟨-, -, -, -, -, -, ⟨hbyte, -⟩⟩ := hs
    rw [packedSoFar, if_neg hlast, packedBit, decide_eq_false hpacked, Bool.false_and]
    exact (and_not_hmask8_eq_zero_iff _ _).mp hbyte _ (by omega)

/-- The bytes that PACK_END leaves are ConjoinRem of the values, cut by the latched operand. -/
theorem map_dstByte_packClosed :
    (List.range (packFinal s)).map (dstByte (packClosed s)) = conjoinRem v s.pN.toNat (packCut s) := by
  have hlen := dstLen_eq_div hs ha
  have hfinal := packFinal_le s
  have hcut : packFinal s = finalLength (v.length * s.pN.toNat) (packCut s) := by
    rw [packFinal, pBits_eq_length_mul hs ha hv]
  rw [hcut]
  refine map_range_eq_conjoinRem fun q hq t ht => ?_
  rw [← hcut] at hq
  have hbyte : (8 * q + t) / 8 = q := by omega
  have hbit : (8 * q + t) % 8 = t := by omega
  rw [← packedSoFar_eq_packedBit hs ha hv (by omega), packedSoFar, hbyte, hbit, dstByte_packClosed]
  by_cases hlast : q = s.dstLen.toNat
  · subst hlast
    simp [hq]
  · have hwhole : q < s.dstLen.toNat := by omega
    simp [hlast, hwhole]

end

/-- Settles O54: PACK_END at the end of the session cuts by `rem`, which is 0 in the form without it. -/
theorem packSessionsOutputConjoin : Obligations.PackSessionsOutputConjoin := by
  unfold Obligations.PackSessionsOutputConjoin
  intro s₀ s t n rem rm k hs₀ hbegin hok hlasts hend hdone
  obtain ⟨hs, ha, hsame, hstream⟩ := packSession_end hs₀ hbegin hok hlasts
  obtain ⟨hfits, rfl⟩ := eq_of_execPackEnd_ok hend hdone
  have ⟨hc, _⟩ := hs
  have houtput := map_dstByte_packClosed hs ha hstream
  have hcut : packCut (afterSteps k s) = if rm = true then rem.toNat else 0 := by
    rw [packCut, hsame.pRm, hsame.pRemV]
    rfl
  rw [← dstLen_packClosed hc hfits, hcut, hsame.pN] at houtput
  refine houtput.trans ?_
  split
  · rfl
  · exact conjoinRem_zero _ _

end Sys2Proof.Machine
end

section
/-! Proofs of the family 44_system.md: NOP (R261) and SOFT_RESET (R262). Neither can fail; their words are of format Z,
so an operand bit that is set makes the word ILLEGAL (R102, R111). -/

namespace Sys2Proof.Machine

/-- A row of the opcode map that holds a command of format Z reports ILLEGAL on any operand bit (R102, R111). -/
theorem execCommand_append_of_decodeZ {op : BitVec 8} {i : Instr} (hrow : ∀ w, opcode w = op → decode w = decodeZ w i)
    {x : BitVec 24} (hx : x ≠ 0#24) (s : State) : execCommand (op ++ x) s = .next (reported s 2 0 0 0 0) := by
  refine execCommand_of_refused ?_ s
  rw [hrow _ (opcode_of_append op x)]
  exact refused_decodeZ_append op hx i

/-! ### NOP (R261) -/

theorem execNop_eq (s : State) : execNop s = .next (succeeded s) := finish_ok s s

theorem decode_of_opcode_nop {w : Word} (h : opcode w = 0x00#8) : decode w = decodeZ w .nop := by
  simp [decode, h]

/-- Settles O22: the command always succeeds and writes nothing, and format Z of its word. -/
theorem nopOnlyReportsSuccess : Obligations.NopOnlyReportsSuccess := by
  unfold Obligations.NopOnlyReportsSuccess
  exact ⟨execNop_eq, rfl, fun x hx => execCommand_append_of_decodeZ (fun _ => decode_of_opcode_nop) hx⟩

/-! ### SOFT_RESET (R262) -/

/-- The outcome registers of a cleared state are 0 already, so that the report of success changes nothing. -/
theorem succeeded_clearRegisters (s : State) : succeeded (clearRegisters s) = clearRegisters s := rfl

theorem execSoftReset_eq (s : State) : execSoftReset s = .next (clearRegisters s) := by
  rw [execSoftReset, finish_ok, succeeded_clearRegisters]

theorem decode_of_opcode_softReset {w : Word} (h : opcode w = 0x01#8) : decode w = decodeZ w .softReset := by
  simp [decode, h]

/-- Settles O23: the next state is the cleared one; its bytes are the old ones, as they depend on the memory and the
count of hard resets alone. -/
theorem softResetZeroesRegistersAndKeepsMemories : Obligations.SoftResetZeroesRegistersAndKeepsMemories := by
  unfold Obligations.SoftResetZeroesRegistersAndKeepsMemories
  refine ⟨fun s => ?_, rfl, fun x hx => execCommand_append_of_decodeZ (fun _ => decode_of_opcode_softReset) hx⟩
  have hsrc := srcByte_congr (clearRegisters_src s) (clearRegisters_powerOns s)
  have hdst := dstByte_congr (clearRegisters_dst s) (clearRegisters_powerOns s)
  exact ⟨clearRegisters s, execSoftReset_eq s, clearRegisters_zero s, clearRegisters_src s, clearRegisters_dst s,
    congrFun hsrc, congrFun hdst, clearRegisters_cfg s, clearRegisters_powerOns s, clearRegisters_inputs s,
    clearRegisters_responses s⟩

end Sys2Proof.Machine
end

section
/-! Proofs of the family 60_exceptions.md: a CMD write runs its command (R286), and each command error is raised exactly
for its cause (R282 to R285). ERR is the code of the command's result (`finish_err`), so that a command's chain of
checks, read in R290's order, is a chain of codes: one equation for ERR per command. -/

namespace Sys2Proof.Machine

/-! ### The code of a result (R281) -/

/-- The code that a command's result leaves in ERR: an error's own, and 0 for success. -/
def resultCode : Except CommandError State → BitVec 4
  | .error e => errorCode e
  | .ok _ => 0

theorem finish_err {s t : State} {r : Except CommandError State} (h : finish s r = .next t) : t.err = resultCode r := by
  rcases finish_cases h with ⟨e, rfl, rfl⟩ | ⟨u, rfl, rfl⟩
  · cases e <;> rfl
  · rfl

/-- A check that fails decides the code; one that is passed leaves it to the rest. -/
theorem resultCode_check (c : Prop) [Decidable c] (e : CommandError) (r : Except CommandError State) :
    resultCode (if c then .error e else r) = if c then errorCode e else resultCode r :=
  apply_ite resultCode c (.error e) r

/-! ### ERR after each command that can fail -/

section
variable {s t : State}

theorem execWindow_err {off : BitVec 24} (h : execWindow off s = .next t) :
    t.err = if s.srcLen.toNat ≤ off.toNat then 4 else 0 := by
  rw [finish_err h, resultCode_check]
  rfl

theorem execSliceExtract_err {n : BitVec 6} {off3 : BitVec 3} (h : execSliceExtract n off3 s = .next t) :
    t.err = if n.toNat < 1 ∨ 32 < n.toNat then 1 else 0 := by
  rw [finish_err h, resultCode_check]
  rfl

theorem execSliceMerge_err {n : BitVec 6} {rl : BitVec 3} {rb : BitVec 8} (h : execSliceMerge n rl rb s = .next t) :
    t.err = if n.toNat < 1 ∨ 32 < n.toNat then 1 else 0 := by
  rw [finish_err h, resultCode_check]
  rfl

theorem execUnpackBegin_err {n : BitVec 6} {wc : BitVec 2} (hwc : WidthCodeLegal wc)
    (h : execUnpackBegin n wc s = .next t) :
    t.err = if n.toNat < 1 ∨ min 32 (8 * 2 ^ wc.toNat) < n.toNat then 1 else 0 := by
  rw [← greatestWidth_eq, finish_err h, if_neg hwc, resultCode_check]
  rfl

/-- Finding no group left is a success too (R188). -/
theorem execUnpackNext_err (h : execUnpackNext s = .next t) : t.err = if s.uActive = false then 3 else 0 := by
  rw [finish_err h, resultCode_check, apply_ite resultCode]
  exact congrArg _ (ite_self 0)

theorem execUnpackEnd_err (h : execUnpackEnd s = .next t) : t.err = if s.uActive = false then 3 else 0 := by
  rw [finish_err h, resultCode_check]
  rfl

theorem execPackBegin_err {n rem : BitVec 6} {rm : Bool} (hform : RemainFieldLegal rem rm)
    (h : execPackBegin n rem rm s = .next t) :
    t.err = if n.toNat < 1 ∨ 32 < n.toNat ∨ (rm = true ∧ n.toNat ≤ rem.toNat) then 1 else 0 := by
  rw [finish_err h, if_neg (not_remainField_reserved hform), resultCode_check, resultCode_check]
  exact (ite_or ..).symm.trans (if_congr or_assoc rfl rfl)

theorem execPackPush_err (h : execPackPush s = .next t) :
    t.err = if s.pActive = false then 3 else
      if s.cfg.dstBytes < s.dstLen.toNat + (s.pN.toNat + s.pRLen.toNat) / 8 then 5 else 0 := by
  rw [finish_err h, resultCode_check, resultCode_check]
  rfl

theorem execPackEnd_err (h : execPackEnd s = .next t) :
    t.err = if s.pActive = false then 3 else
      if s.cfg.dstBytes < (s.pBits.toNat - (if s.pRm = true then s.pRemV.toNat else 0) + 7) / 8 then 5 else 0 := by
  rw [finish_err h, resultCode_check, resultCode_check]
  rfl

end

/-! ### Which codes a chain of checks can give -/

/-- The value `code` of ERR names a cause exactly where that cause holds, and is no other code but 0 (R281). -/
abbrev NamesItsCause (code : BitVec 4) (config state range capacity : Prop) : Prop :=
  (code.toNat ≤ 5 ∧ code ≠ 2) ∧ (code = 1 ↔ config) ∧ (code = 3 ↔ state) ∧ (code = 4 ↔ range) ∧ (code = 5 ↔ capacity)

theorem namesItsCause_zero : NamesItsCause 0 False False False False := by
  simp [NamesItsCause]

section
variable (c : Prop) [Decidable c]

theorem namesItsCause_config : NamesItsCause (if c then 1 else 0) c False False False := by
  by_cases hc : c <;> simp [NamesItsCause, hc]

theorem namesItsCause_state : NamesItsCause (if c then 3 else 0) False c False False := by
  by_cases hc : c <;> simp [NamesItsCause, hc]

theorem namesItsCause_range : NamesItsCause (if c then 4 else 0) False False c False := by
  by_cases hc : c <;> simp [NamesItsCause, hc]

/-- STATE is checked before CAPACITY (R290), so CAPACITY needs an open session. -/
theorem namesItsCause_state_capacity (active : Bool) :
    NamesItsCause (if active = false then 3 else if c then 5 else 0) False (active = false) False
      (active = true ∧ c) := by
  cases active with
  | false => simp [NamesItsCause]
  | true => by_cases hc : c <;> simp [NamesItsCause, hc]

end

/-- Settles O35: ERR is the code of the command's first failed check; NOP and SOFT_RESET have no check. -/
theorem eachErrorIsRaisedExactlyForItsCause : Obligations.EachErrorIsRaisedExactlyForItsCause := by
  unfold Obligations.EachErrorIsRaisedExactlyForItsCause
  intro i s t hwf h
  cases i with
  | nop =>
    rw [finish_err (s := s) (r := .ok s) h]
    exact namesItsCause_zero
  | softReset =>
    rw [finish_err (s := s) (r := .ok (clearRegisters s)) h]
    exact namesItsCause_zero
  | window off =>
    rw [execWindow_err h]
    exact namesItsCause_range _
  | sliceExtract n off3 =>
    rw [execSliceExtract_err h]
    exact namesItsCause_config _
  | sliceMerge n rl rb =>
    rw [execSliceMerge_err h]
    exact namesItsCause_config _
  | unpackBegin n wc =>
    rw [execUnpackBegin_err hwf h]
    exact namesItsCause_config _
  | unpackNext =>
    rw [execUnpackNext_err h]
    exact namesItsCause_state _
  | unpackEnd =>
    rw [execUnpackEnd_err h]
    exact namesItsCause_state _
  | packBegin n rem rm =>
    rw [execPackBegin_err hwf h]
    exact namesItsCause_config _
  | packPush =>
    rw [execPackPush_err h]
    exact namesItsCause_state_capacity _ _
  | packEnd =>
    rw [execPackEnd_err h]
    exact namesItsCause_state_capacity _ _

/-! ### The CMD write (R286) -/

/-- The write of a word to CMD executes the word and is answered OK, whatever its outcome. -/
theorem step_commandWrite {s : State} {rest : List Input} {w : Word}
    (hin : s.inputs = .transaction (.hostWrite 0x008#32 (.word w)) :: rest) :
    step s = answerWith .okWrite (execCommand w (taken rest s)) :=
  step_writeRegister (r := .CMD) rfl hin

/-- Settles O5: the executed word is the decoded command, or it is ILLEGAL. -/
theorem stepRunsTheDecodedCommand : Obligations.StepRunsTheDecodedCommand := by
  unfold Obligations.StepRunsTheDecodedCommand
  intro s rest w hin
  rw [step_commandWrite hin]
  constructor
  · intro i hdec t hexec
    have hrun : exec i (taken rest s) = .next t := hexec
    rw [execCommand_of_ok hdec, hrun]
    rfl
  · intro why hdec
    rw [execCommand_of_error hdec]
    rfl

end Sys2Proof.Machine
end

section
/-! Proofs of the whole encoding (R101 to R113): decode and encode are inverse to each other. From a command to its
word this is the words of each format, proved with the commands; from a word to its command, the checks that the word
passes put it together again from its fields. -/

namespace Sys2Proof.Machine

/-- Settles O1: the decoder computes each of them. -/
theorem sampleWordsDecodeToTheirCommands : Obligations.SampleWordsDecodeToTheirCommands := by
  unfold Obligations.SampleWordsDecodeToTheirCommands
  decide

/-! ### From a command to its word and back -/

/-- Settles O2: the word of each format decodes to its operands; the words of format Z are constants. -/
theorem decodeOfEncodeIsTheCommand : Obligations.DecodeOfEncodeIsTheCommand := by
  unfold Obligations.DecodeOfEncodeIsTheCommand
  intro i hwf
  cases i with
  | nop | softReset | unpackNext | unpackEnd | packPush | packEnd => rfl
  | window off => exact decode_windowWord off
  | sliceExtract n off3 => exact decode_sliceExtractWord n off3
  | sliceMerge n rl rb => exact decode_sliceMergeWord n rl rb
  | unpackBegin n wc => exact decode_unpackBeginWord n hwf
  | packBegin n rem rm => exact decode_packBeginWord n hwf

/-! ### From a word to its command and back -/

/-- What the decoder answers for the word `w` is no command, or the well-formed one whose word is `w`. -/
def Faithful (w : Word) (r : Except IllegalReason Instr) : Prop := ∀ i, r = .ok i → i.WellFormed ∧ encode i = w

theorem faithful_error (w : Word) (why : IllegalReason) : Faithful w (.error why) := nofun

theorem faithful_ok {w : Word} {i : Instr} (hwf : i.WellFormed) (hword : encode i = w) : Faithful w (.ok i) :=
  fun _ hi => Except.ok.inj hi ▸ ⟨hwf, hword⟩

/-- The rest of a format's decoder may use that its check was passed. -/
theorem faithful_check {w : Word} {c : Prop} [Decidable c] {why : IllegalReason} {r : Except IllegalReason Instr}
    (hr : ¬ c → Faithful w r) : Faithful w (if c then .error why else r) := by
  split
  · exact faithful_error w why
  · next hc => exact hr hc

/-- A row of the opcode map may use its opcode. -/
theorem faithful_row {w : Word} {c : Prop} [Decidable c] {a b : Except IllegalReason Instr}
    (ha : c → Faithful w a) (hb : Faithful w b) : Faithful w (if c then a else b) := by
  split
  · next hc => exact ha hc
  · exact hb

/-- Format Z (R102). -/
theorem faithful_decodeZ {w : Word} {op : BitVec 8} {i : Instr} (hop : opcode w = op) (hwf : i.WellFormed)
    (hword : encode i = op ++ 0#24) : Faithful w (decodeZ w i) := by
  unfold decodeZ
  split
  · next hbits => exact faithful_ok hwf (by rw [hword, ← hop, ← hbits, opcode_append])
  · exact faithful_error w _

/-- Format I (R103). -/
theorem faithful_decodeI {w : Word} (hop : opcode w = 0x10#8) : Faithful w (decodeI w) :=
  faithful_ok trivial (by rw [encode, ← hop, opcode_append])


/-- Format SX (R107). -/
theorem faithful_decodeSX {w : Word} (hop : opcode w = 0x18#8) : Faithful w (decodeSX w) := by
  refine faithful_check fun hreserved => faithful_ok trivial ?_
  obtain ⟨h6, h11⟩ := not_or.mp hreserved
  rw [encode, ← hop, ← not_not.mp h6, ← not_not.mp h11, opcode]
  simp only [BitVec.extractLsb'_append_extractLsb'_eq_extractLsb']
  exact BitVec.extractLsb'_eq_self

/-- Format SM (R108). -/
theorem faithful_decodeSM {w : Word} (hop : opcode w = 0x19#8) : Faithful w (decodeSM w) := by
  refine faithful_check fun hreserved => faithful_ok trivial ?_
  obtain ⟨h6, h11⟩ := not_or.mp hreserved
  rw [encode, ← hop, ← not_not.mp h6, ← not_not.mp h11, opcode]
  simp only [BitVec.extractLsb'_append_extractLsb'_eq_extractLsb']
  exact BitVec.extractLsb'_eq_self

/-- Format U (R104, R106). -/
theorem faithful_decodeU {w : Word} (hop : opcode w = 0x20#8) : Faithful w (decodeU w) := by
  refine faithful_check fun hreserved => faithful_check fun hwidthCode => faithful_ok hwidthCode ?_
  obtain ⟨h6, h10⟩ := not_or.mp hreserved
  rw [encode, ← hop, ← not_not.mp h6, ← not_not.mp h10, opcode]
  simp only [BitVec.extractLsb'_append_extractLsb'_eq_extractLsb']
  exact BitVec.extractLsb'_eq_self

/-- A flag of a word is a field of one bit. -/
theorem ofBool_getLsbD (w : Word) (p : Nat) : BitVec.ofBool (w.getLsbD p) = w.extractLsb' p 1 := by
  apply BitVec.eq_of_getLsbD_eq
  intro i hi
  obtain rfl : i = 0 := by omega
  simp

/-- Format P (R105, R111.4). -/
theorem faithful_decodeP {w : Word} (hop : opcode w = 0x30#8) : Faithful w (decodeP w) := by
  refine faithful_check fun hreserved => faithful_check fun hform => faithful_ok
    (fun hrm => not_not.mp fun hrem => hform ⟨hrm, hrem⟩) ?_
  obtain ⟨h6, hreserved⟩ := not_or.mp hreserved
  obtain ⟨h14, h17⟩ := not_or.mp hreserved
  have hfields : opcode w ++ w.extractLsb' 17 7 ++ w.extractLsb' 16 1 ++ w.extractLsb' 14 2 ++ w.extractLsb' 8 6 ++
      w.extractLsb' 6 2 ++ w.extractLsb' 0 6 = w := by
    simp only [opcode, BitVec.extractLsb'_append_extractLsb'_eq_extractLsb']
    exact BitVec.extractLsb'_eq_self
  rwa [hop, not_not.mp h6, not_not.mp h14, not_not.mp h17, ← ofBool_getLsbD] at hfields

/-- Every row of the map of R110. -/
theorem faithful_decode (w : Word) : Faithful w (decode w) := by
  unfold decode
  refine faithful_row (fun hop => faithful_decodeZ hop trivial rfl) ?_
  refine faithful_row (fun hop => faithful_decodeZ hop trivial rfl) ?_
  refine faithful_row faithful_decodeI ?_
  refine faithful_row faithful_decodeSX ?_
  refine faithful_row faithful_decodeSM ?_
  refine faithful_row faithful_decodeU ?_
  refine faithful_row (fun hop => faithful_decodeZ hop trivial rfl) ?_
  refine faithful_row (fun hop => faithful_decodeZ hop trivial rfl) ?_
  refine faithful_row faithful_decodeP ?_
  refine faithful_row (fun hop => faithful_decodeZ hop trivial rfl) ?_
  refine faithful_row (fun hop => faithful_decodeZ hop trivial rfl) ?_
  exact faithful_error w _

/-- Settles O3: each row of the opcode map is faithful. -/
theorem encodeOfDecodeIsTheWord : Obligations.EncodeOfDecodeIsTheWord := by
  unfold Obligations.EncodeOfDecodeIsTheWord
  exact faithful_decode

end Sys2Proof.Machine
end

section
/-! Proofs over all commands: what a failing and a successful command leave (R287, R288), and which commands may write
each component (R32 to R57). A command reports an error or makes one of a few writes; these are named once, and each
fact about all commands is read off them. -/

namespace Sys2Proof.Machine

/-! ### Everything a command can do -/

/-- The state after the writes of a successful command, before success is reported. -/
inductive Writes (s : State) : Instr → State → Prop
  | nop : Writes s .nop s
  | softReset : Writes s .softReset (clearRegisters s)
  | window (off : BitVec 24) : Writes s (.window off) (setR64 (window (srcByte s) s.srcLen.toNat off.toNat) s)
  | sliceExtract (n : BitVec 6) (off3 : BitVec 3) :
      Writes s (.sliceExtract n off3) (setR32 (extract (s.xHi ++ s.xLo) off3.toNat n.toNat) s)
  | sliceMerge (n : BitVec 6) (rl : BitVec 3) (rb : BitVec 8) :
      Writes s (.sliceMerge n rl rb) (setR64 (merge rb rl.toNat s.xLo n.toNat) s)
  | unpackBegin (n : BitVec 6) (wc : BitVec 2) : Writes s (.unpackBegin n wc) (sessionOpened n wc s)
  | groupDelivered : Writes s .unpackNext (groupDelivered s)
  | noGroupLeft : Writes s .unpackNext (noGroupLeft s)
  | unpackEnd : Writes s .unpackEnd { s with uActive := false, uValid := false }
  | packBegin (n rem : BitVec 6) (rm : Bool) : Writes s (.packBegin n rem rm) (packOpened n rem rm s)
  | packPush : Writes s .packPush (pushed s)
  | packEnd : Writes s .packEnd (packClosed s)

/-- A command's result is an error or its writes. -/
def ResultWrites (s : State) (i : Instr) : Except CommandError State → Prop
  | .error _ => True
  | .ok u => Writes s i u

theorem ResultWrites.check {s : State} {i : Instr} {r : Except CommandError State} {c : Prop} [Decidable c]
    {e : CommandError} (hr : ResultWrites s i r) : ResultWrites s i (if c then .error e else r) := by
  split
  · trivial
  · exact hr

theorem finish_writes {s t : State} {i : Instr} {r : Except CommandError State} (h : finish s r = .next t)
    (hr : ResultWrites s i r) : (∃ e, t = raiseError e s) ∨ ∃ u, Writes s i u ∧ t = succeeded u := by
  rcases finish_cases h with ⟨e, -, rfl⟩ | ⟨u, rfl, rfl⟩
  · exact .inl ⟨e, rfl⟩
  · exact .inr ⟨u, hr, rfl⟩

/-- Everything a command can do: report an error and nothing else, or make its writes and report success. -/
theorem exec_cases {i : Instr} {s t : State} (h : exec i s = .next t) :
    (∃ e, t = raiseError e s) ∨ ∃ u, Writes s i u ∧ t = succeeded u := by
  cases i with
  | nop => exact finish_writes (r := .ok s) h .nop
  | softReset => exact finish_writes (r := .ok (clearRegisters s)) h .softReset
  | window off => exact finish_writes h (.check (.window off))
  | sliceExtract n off3 => exact finish_writes h (.check (.sliceExtract n off3))
  | sliceMerge n rl rb => exact finish_writes h (.check (.sliceMerge n rl rb))
  | unpackBegin n wc => exact finish_writes h (.check (.check (.unpackBegin n wc)))
  | unpackNext =>
    refine finish_writes h (.check ?_)
    split
    · exact Writes.noGroupLeft
    · exact Writes.groupDelivered
  | unpackEnd => exact finish_writes h (.check .unpackEnd)
  | packBegin n rem rm => exact finish_writes h (.check (.check (.check (.packBegin n rem rm))))
  | packPush => exact finish_writes h (.check (.check .packPush))
  | packEnd => exact finish_writes h (.check (.check .packEnd))

/-! ### The outcome registers (R287, R288) -/

theorem raiseError_err (e : CommandError) (s : State) : (raiseError e s).err = errorCode e := by
  cases e <;> rfl

theorem errorCode_ne_zero (e : CommandError) : errorCode e ≠ 0 := by
  cases e <;> simp [errorCode]

/-- An error changes the outcome registers alone. -/
theorem raiseError_eq_reported (e : CommandError) (s : State) :
    raiseError e s = reported s (raiseError e s).err (raiseError e s).errParam (raiseError e s).errValue
      (raiseError e s).errMin (raiseError e s).errMax := by
  cases e <;> rfl

/-- Only CONFIG has information to report (R42, R43). -/
theorem raiseError_info_zero {e : CommandError} {s : State} (he : (raiseError e s).err ≠ 1) :
    (raiseError e s).errParam = 0 ∧ (raiseError e s).errValue = 0 ∧
      (raiseError e s).errMin = 0 ∧ (raiseError e s).errMax = 0 := by
  cases e with
  | config => exact absurd rfl he
  | illegal | state | range | capacity => exact ⟨rfl, rfl, rfl, rfl⟩

/-- Settles O33: a success has ERR 0, so the command has raised an error. -/
theorem failingCommandsChangeOnlyTheOutcome : Obligations.FailingCommandsChangeOnlyTheOutcome := by
  unfold Obligations.FailingCommandsChangeOnlyTheOutcome
  intro i s t h hfail
  rcases exec_cases h with ⟨e, rfl⟩ | ⟨u, -, rfl⟩
  · exact ⟨raiseError_eq_reported e s, raiseError_info_zero⟩
  · exact absurd (succeeded_err u) hfail

theorem Writes.sticky_eq {s u : State} {i : Instr} (h : Writes s i u) (hreset : i ≠ .softReset) :
    u.sticky = s.sticky := by
  cases h with
  | softReset => exact absurd rfl hreset
  | _ => rfl

/-- Settles O34: an error's code is not 0, so the command has reported success. -/
theorem successfulCommandsZeroTheOutcome : Obligations.SuccessfulCommandsZeroTheOutcome := by
  unfold Obligations.SuccessfulCommandsZeroTheOutcome
  intro i s t h hok
  rcases exec_cases h with ⟨e, rfl⟩ | ⟨u, hwrites, rfl⟩
  · exact absurd (raiseError_err e s ▸ hok) (errorCode_ne_zero e)
  · exact ⟨rfl, rfl, rfl, rfl, hwrites.sticky_eq⟩

/-! ### Which commands write which component -/

section
variable {s u : State} {i : Instr} (h : Writes s i u)
include h

theorem Writes.source_eq :
    u.src = s.src ∧ u.cfg = s.cfg ∧ u.powerOns = s.powerOns ∧ u.inputs = s.inputs ∧ u.responses = s.responses := by
  cases h <;> exact ⟨rfl, rfl, rfl, rfl, rfl⟩

theorem Writes.dst_eq (hpush : i ≠ .packPush) (hend : i ≠ .packEnd) : u.dst = s.dst := by
  cases h with
  | packPush => exact absurd rfl hpush
  | packEnd => exact absurd rfl hend
  | _ => rfl

theorem Writes.operands_eq (hreset : i ≠ .softReset) : u.srcLen = s.srcLen ∧ u.xLo = s.xLo ∧ u.xHi = s.xHi := by
  cases h with
  | softReset => exact absurd rfl hreset
  | _ => exact ⟨rfl, rfl, rfl⟩

theorem Writes.results_eq (hreset : i ≠ .softReset) (hnext : i ≠ .unpackNext) (hwindow : ∀ off, i ≠ .window off)
    (hextract : ∀ n b, i ≠ .sliceExtract n b) (hmerge : ∀ n rl rb, i ≠ .sliceMerge n rl rb) :
    u.rLo = s.rLo ∧ u.rHi = s.rHi := by
  cases h with
  | softReset => exact absurd rfl hreset
  | groupDelivered | noGroupLeft => exact absurd rfl hnext
  | window off => exact absurd rfl (hwindow off)
  | sliceExtract n b => exact absurd rfl (hextract n b)
  | sliceMerge n rl rb => exact absurd rfl (hmerge n rl rb)
  | _ => exact ⟨rfl, rfl⟩

theorem Writes.unpacker_eq (hreset : i ≠ .softReset) (hbegin : isUnpackBegin i = false) :
    u.uN = s.uN ∧ u.uWc = s.uWc ∧ u.uRemain = s.uRemain ∧
      (i ≠ .unpackNext → u.uPos = s.uPos ∧ u.uCount = s.uCount) ∧
      (i ≠ .unpackEnd → u.uActive = s.uActive) ∧
      (i ≠ .unpackNext → i ≠ .unpackEnd → u.uValid = s.uValid) := by
  cases h with
  | softReset => exact absurd rfl hreset
  | unpackBegin n wc => simp [isUnpackBegin] at hbegin
  | groupDelivered | noGroupLeft => exact ⟨rfl, rfl, rfl, absurd rfl, fun _ => rfl, absurd rfl⟩
  | unpackEnd => exact ⟨rfl, rfl, rfl, fun _ => ⟨rfl, rfl⟩, absurd rfl, fun _ => absurd rfl⟩
  | _ => exact ⟨rfl, rfl, rfl, fun _ => ⟨rfl, rfl⟩, fun _ => rfl, fun _ _ => rfl⟩

theorem Writes.packer_eq (hreset : i ≠ .softReset) (hbegin : isPackBegin i = false) :
    u.pN = s.pN ∧ u.pRemV = s.pRemV ∧ u.pRm = s.pRm ∧
      (i ≠ .packPush → u.pCount = s.pCount ∧ u.pBits = s.pBits) ∧
      (i ≠ .packEnd → u.pActive = s.pActive ∧ u.pDone = s.pDone) ∧
      (i ≠ .packPush → i ≠ .packEnd → u.dstLen = s.dstLen ∧ u.pRByte = s.pRByte ∧ u.pRLen = s.pRLen) := by
  cases h with
  | softReset => exact absurd rfl hreset
  | packBegin n rem rm => simp [isPackBegin] at hbegin
  | packPush => exact ⟨rfl, rfl, rfl, absurd rfl, fun _ => ⟨rfl, rfl⟩, absurd rfl⟩
  | packEnd => exact ⟨rfl, rfl, rfl, fun _ => ⟨rfl, rfl⟩, absurd rfl, fun _ => absurd rfl⟩
  | _ => exact ⟨rfl, rfl, rfl, fun _ => ⟨rfl, rfl⟩, fun _ => ⟨rfl, rfl⟩, fun _ _ => ⟨rfl, rfl, rfl⟩⟩

end

/-- Settles O43: an error writes the outcome registers alone, and a success adds them to the command's writes. -/
theorem commandsWriteOnlyTheirOwnPart : Obligations.CommandsWriteOnlyTheirOwnPart := by
  unfold Obligations.CommandsWriteOnlyTheirOwnPart
  intro i s t h
  rcases exec_cases h with ⟨e, rfl⟩ | ⟨u, hwrites, rfl⟩
  · rw [raiseError_eq_reported]
    simp
  · obtain ⟨hsrc, hcfg, hpowerOns, hinputs, hresponses⟩ := hwrites.source_eq
    exact ⟨hsrc, hcfg, hpowerOns, hinputs, hresponses, hwrites.dst_eq, hwrites.operands_eq, hwrites.results_eq,
      hwrites.unpacker_eq, hwrites.packer_eq⟩

end Sys2Proof.Machine
end

section
/-! Proofs over all steps: every step answers a next state and takes the waiting input (R327), a bus error changes
nothing (R71), and what moves the cursor (R48) and the source (R88). A step's cases are those of `step_cases` and
`hostWrite_cases`; of a command the facts of the part before are used. -/

namespace Sys2Proof.Machine

/-! ### Shared by the step's cases -/

/-- Everything a command word can do: be ILLEGAL, or run the command it decodes to. -/
theorem execCommand_next_cases {w : Word} {s t : State} (h : execCommand w s = .next t) :
    t = reported s 2 0 0 0 0 ∨ ∃ i, decode w = .ok i ∧ exec i s = .next t := by
  rcases execCommand_cases w s with ⟨_, _, heq⟩ | ⟨i, hdec, heq⟩
  · exact .inl (Host.Outcome.next.inj (heq ▸ h)).symm
  · exact .inr ⟨i, hdec, heq ▸ h⟩

/-- A STATUS write changes STICKY alone. -/
theorem writeStatus_eq (d : Word) (s : State) : ∃ sticky, writeStatus d s = { s with sticky := sticky } := by
  unfold writeStatus
  split
  · exact ⟨false, rfl⟩
  · exact ⟨s.sticky, rfl⟩

/-! ### Steps and the queue (R301, R327) -/

/-- Settles O6. -/
theorem noInputLeavesTheStateAsItIs : Obligations.NoInputLeavesTheStateAsItIs := by
  unfold Obligations.NoInputLeavesTheStateAsItIs
  intro s hidle
  rw [step, hidle]

theorem execCommand_inputs {w : Word} {s t : State} (h : execCommand w s = .next t) : t.inputs = s.inputs := by
  rcases execCommand_next_cases h with rfl | ⟨i, -, hexec⟩
  · rfl
  · obtain ⟨-, -, -, hinputs, -⟩ := commandsWriteOnlyTheirOwnPart i s t hexec
    exact hinputs

theorem hostWrite_inputs {addr : Word} {data : BusData} {s t : State} (h : hostWrite addr data s = .next t) :
    t.inputs = s.inputs := by
  rcases hostWrite_cases h with ⟨w, u, -, -, hu, rfl⟩ | ⟨d, rfl⟩ | ⟨d, rfl⟩ | ⟨d, rfl⟩ | ⟨d, -, -, rfl⟩ |
    ⟨i, b, -, -, rfl⟩ | rfl
  · exact execCommand_inputs (t := u) hu
  · obtain ⟨sticky, hstatus⟩ := writeStatus_eq d s
    rw [hstatus]
    rfl
  all_goals rfl

theorem step_inputs {s t : State} (h : step s = .next t) : t.inputs = s.inputs.tail := by
  rcases step_cases h with ⟨hin, rfl⟩ | ⟨rest, hin, rfl⟩ | ⟨rest, addr, width, hin, rfl⟩ |
    ⟨rest, addr, data, hin, hwrite⟩ <;> rw [hin]
  · rfl
  · rfl
  · rfl
  · exact hostWrite_inputs hwrite

/-- Settles O7. -/
theorem everyStepAnswersANextState : Obligations.EveryStepAnswersANextState := by
  unfold Obligations.EveryStepAnswersANextState
  exact fun s => ⟨stepTo s, step_eq_stepTo s, step_inputs (step_eq_stepTo s)⟩

/-! ### Bus errors (R71) -/

/-- A write that is not answered OK was refused: the CMD write is OK whatever the command's outcome (R286). -/
theorem hostWrite_busErr {addr : Word} {data : BusData} {s t : State} (h : hostWrite addr data s = .next t)
    (hbus : t.responses.head? = some .busErr) : t = respond .busErr s := by
  have hok (u : State) : (respond .okWrite u).responses.head? ≠ some .busErr := by simp [respond]
  rcases hostWrite_cases h with ⟨w, u, -, -, -, rfl⟩ | ⟨d, rfl⟩ | ⟨d, rfl⟩ | ⟨d, rfl⟩ | ⟨d, -, -, rfl⟩ |
    ⟨i, b, -, -, rfl⟩ | hrefused
  on_goal 7 => exact hrefused
  all_goals exact absurd hbus (hok _)

/-- Settles O21: a read leaves only its answer, and a write answered BUSERR was refused. -/
theorem busErrorsChangeNoState : Obligations.BusErrorsChangeNoState := by
  unfold Obligations.BusErrorsChangeNoState
  intro s t rest tr hin hstep hbus _
  cases tr with
  | hostRead addr width =>
    obtain rfl := Host.Outcome.next.inj ((step_hostRead hin).symm.trans hstep)
    have hanswer : hostRead addr width s = .busErr := by simpa using hbus
    rw [hanswer]
  | hostWrite addr data => exact hostWrite_busErr (s := taken rest s) ((step_hostWrite hin).symm.trans hstep) hbus

/-! ### The cursor (R48, R186) -/

/-- The commands that move the cursor. -/
def movesCursor (i : Instr) : Bool := isUnpackBegin i || i == .unpackNext || i == .softReset

theorem exec_uPos_eq {i : Instr} {s t : State} (h : exec i s = .next t) (hi : movesCursor i = false) :
    t.uPos = s.uPos := by
  obtain ⟨⟨hbegin, hnext⟩, hreset⟩ : (isUnpackBegin i = false ∧ i ≠ .unpackNext) ∧ i ≠ .softReset := by
    simpa [movesCursor] using hi
  obtain ⟨-, -, -, -, -, -, -, -, hunpacker, -⟩ := commandsWriteOnlyTheirOwnPart i s t h
  obtain ⟨-, -, -, hcursor, -⟩ := hunpacker hreset hbegin
  exact (hcursor hnext).1

/-- A write that moves the cursor is the CMD write of a command that does. -/
theorem hostWrite_uPos {addr : Word} {data : BusData} {s t : State} (h : hostWrite addr data s = .next t)
    (hmoved : t.uPos ≠ s.uPos) :
    addr = 0x008#32 ∧ ∃ w i, data = .word w ∧ decode w = .ok i ∧ movesCursor i = true := by
  rcases hostWrite_cases h with ⟨w, u, rfl, htarget, hu, rfl⟩ | ⟨d, rfl⟩ | ⟨d, rfl⟩ | ⟨d, rfl⟩ | ⟨d, -, -, rfl⟩ |
    ⟨i, b, -, -, rfl⟩ | rfl
  · refine ⟨eq_of_targetOf_register htarget, ?_⟩
    rcases execCommand_next_cases hu with rfl | ⟨i, hdec, hexec⟩
    · exact absurd rfl hmoved
    · refine ⟨w, i, rfl, hdec, ?_⟩
      by_contra hi
      exact hmoved (exec_uPos_eq (t := u) hexec (by simpa using hi))
  · obtain ⟨sticky, hstatus⟩ := writeStatus_eq d s
    rw [hstatus] at hmoved
    exact absurd rfl hmoved
  all_goals exact absurd rfl hmoved

/-- Settles O45, by the cases of a step: idle and read leave the cursor. -/
theorem onlyUnpackCommandsAndResetsMoveTheCursor : Obligations.OnlyUnpackCommandsAndResetsMoveTheCursor := by
  unfold Obligations.OnlyUnpackCommandsAndResetsMoveTheCursor
  intro s t hstep hmoved
  rcases step_cases hstep with ⟨-, rfl⟩ | ⟨rest, hin, rfl⟩ | ⟨rest, addr, width, -, rfl⟩ |
    ⟨rest, addr, data, hin, hwrite⟩
  · exact absurd rfl hmoved
  · exact .inl (by rw [hin]; rfl)
  · exact absurd rfl hmoved
  · obtain ⟨rfl, w, i, rfl, hdec, hi⟩ := hostWrite_uPos hwrite hmoved
    exact .inr ((nextCommandIs_iff movesCursor s).mpr ⟨rest, w, i, hin, hdec, hi⟩)

/-! ### The source lock (R88) -/

/-- `t` has the source of `s`: its length, its bytes, and the bytes drawn with it (R62). -/
structure SameSource (s t : State) : Prop where
  srcLen : t.srcLen = s.srcLen
  src : t.src = s.src
  drawn : t.powerOns = s.powerOns

/-- Of the commands SOFT_RESET alone clears SRC_LEN, and it closes the session. -/
theorem exec_sameSource {i : Instr} {s t : State} (h : exec i s = .next t) (ha : t.uActive = true) :
    SameSource s t := by
  obtain ⟨hsrc, -, hdrawn, -, -, -, hoperands, -⟩ := commandsWriteOnlyTheirOwnPart i s t h
  refine ⟨(hoperands ?_).1, hsrc, hdrawn⟩
  rintro rfl
  obtain rfl := Host.Outcome.next.inj ((execSoftReset_eq s).symm.trans h)
  simp at ha

theorem hostWrite_sameSource {addr : Word} {data : BusData} {s t : State} (h : hostWrite addr data s = .next t)
    (hs : s.uActive = true) (ht : t.uActive = true) : SameSource s t := by
  rcases hostWrite_cases h with ⟨w, u, -, -, hu, rfl⟩ | ⟨d, rfl⟩ | ⟨d, rfl⟩ | ⟨d, rfl⟩ | ⟨d, hidle, -, -⟩ |
    ⟨i, b, hidle, -, -⟩ | rfl
  · rcases execCommand_next_cases hu with rfl | ⟨i, -, hexec⟩
    · exact ⟨rfl, rfl, rfl⟩
    · obtain ⟨hsrcLen, hsrc, hdrawn⟩ := exec_sameSource hexec ht
      exact ⟨hsrcLen, hsrc, hdrawn⟩
  · obtain ⟨sticky, hstatus⟩ := writeStatus_eq d s
    rw [hstatus]
    exact ⟨rfl, rfl, rfl⟩
  · exact ⟨rfl, rfl, rfl⟩
  · exact ⟨rfl, rfl, rfl⟩
  · exact absurd hs (by simp [hidle])
  · exact absurd hs (by simp [hidle])
  · exact ⟨rfl, rfl, rfl⟩

theorem step_sameSource {s t : State} (h : step s = .next t) (hs : s.uActive = true) (ht : t.uActive = true) :
    SameSource s t := by
  rcases step_cases h with ⟨-, rfl⟩ | ⟨rest, -, rfl⟩ | ⟨rest, addr, width, -, rfl⟩ | ⟨rest, addr, data, -, hwrite⟩
  · exact ⟨rfl, rfl, rfl⟩
  · simp at ht
  · exact ⟨rfl, rfl, rfl⟩
  · obtain ⟨hsrcLen, hsrc, hdrawn⟩ := hostWrite_sameSource (s := taken rest s) hwrite hs ht
    exact ⟨hsrcLen, hsrc, hdrawn⟩

/-- Settles O46: the port refuses to write the source, and no command of the session does. -/
theorem sourceIsLockedWhileASessionIsOpen : Obligations.SourceIsLockedWhileASessionIsOpen := by
  unfold Obligations.SourceIsLockedWhileASessionIsOpen
  intro s t hstep hs ht
  obtain ⟨hsrcLen, hsrc, hdrawn⟩ := step_sameSource hstep hs ht
  exact ⟨hsrcLen, hsrc, congrFun (srcByte_congr hsrc hdrawn)⟩

end Sys2Proof.Machine
end

section
/-! Proofs about the register images (R35 to R54): a register is read through its image, and a composed image is the sum
of its fields, each at its bit. -/

namespace Sys2Proof.Machine

/-- A register reads as its image. -/
theorem readsAs_register {s : State} {value : Nat} (r : Reg) (h : (registerImage r s).toNat = value) :
    readsAs s (registerOffset r) value :=
  ⟨registerImage r s, by simp only [hostRead, targetOf_register], h⟩

/-- Settles O9: a read leaves nothing but its answer. -/
theorem readsHaveNoSideEffect : Obligations.ReadsHaveNoSideEffect := by
  unfold Obligations.ReadsHaveNoSideEffect
  exact fun s rest addr width => step_hostRead

/-- Settles O10: a capacity of R12 fits its register. -/
theorem identityRegistersReadTheirConstants : Obligations.IdentityRegistersReadTheirConstants := by
  unfold Obligations.IdentityRegistersReadTheirConstants
  intro s ⟨_, hsrc, _, hdst⟩
  exact ⟨readsAs_register .ID rfl, readsAs_register .VERSION rfl, readsAs_register .CMD rfl,
    readsAs_register .SRC_CAP (toNat_ofNat_of_lt (by omega)), readsAs_register .DST_CAP (toNat_ofNat_of_lt (by omega))⟩

/-- Settles O12: a narrow component is zero-extended. -/
theorem oneComponentRegistersReadTheirComponent : Obligations.OneComponentRegistersReadTheirComponent := by
  unfold Obligations.OneComponentRegistersReadTheirComponent
  intro s
  have hnarrow {w : Nat} (x : BitVec w) (hw : w ≤ 32) : (x.setWidth 32).toNat = x.toNat :=
    BitVec.toNat_setWidth_of_le hw
  exact
    ⟨⟨readsAs_register .ERR_PARAM (hnarrow _ (by decide)), readsAs_register .ERR_VALUE rfl,
        readsAs_register .ERR_MIN rfl, readsAs_register .ERR_MAX rfl⟩,
      ⟨readsAs_register .X_LO rfl, readsAs_register .X_HI rfl, readsAs_register .R_LO rfl, readsAs_register .R_HI rfl⟩,
      ⟨readsAs_register .SRC_LEN (hnarrow _ (by decide)), readsAs_register .DST_LEN (hnarrow _ (by decide))⟩,
      ⟨readsAs_register .U_POS rfl, readsAs_register .U_COUNT rfl,
        readsAs_register .U_REMAIN (hnarrow _ (by decide))⟩,
      ⟨readsAs_register .P_COUNT rfl, readsAs_register .P_BITS rfl⟩⟩

/-- The upper part of a concatenation stands above the lower one's width. -/
theorem toNat_append_eq_add {m n : Nat} (x : BitVec m) (y : BitVec n) :
    (x ++ y).toNat = x.toNat * 2 ^ n + y.toNat := by
  rw [BitVec.toNat_append, ← Nat.shiftLeft_add_eq_or_of_lt y.isLt, Nat.shiftLeft_eq]

/-- Settles O11: the fields of the image, from bit 0 up. -/
theorem statusImageHasItsFields : Obligations.StatusImageHasItsFields := by
  unfold Obligations.StatusImageHasItsFields
  intro s
  refine readsAs_register .STATUS ?_
  simp only [registerImage, statusImage, uDone, toNat_append_eq_add, BitVec.toNat_ofBool, BitVec.toNat_ofNat]
  omega

/-- Settles O13: the fields of the three images, from bit 0 up. -/
theorem configurationImagesHaveTheirFields : Obligations.ConfigurationImagesHaveTheirFields := by
  unfold Obligations.ConfigurationImagesHaveTheirFields
  refine fun s => ⟨readsAs_register .U_CFG ?_, readsAs_register .P_CFG ?_, readsAs_register .P_REM ?_⟩ <;>
    simp only [registerImage, toNat_append_eq_add, BitVec.toNat_ofBool, BitVec.toNat_ofNat] <;> omega

end Sys2Proof.Machine
end

section
/-! Proofs about the host's writes (R44, R77): SRC_LEN, the bytes of SRC, the operand registers, and the registers that
no write reaches. -/

namespace Sys2Proof.Machine

/-! ### SRC_LEN (R44) -/

/-- Settles O16, by the two checks of the write; a length that passes them fits its register. -/
theorem srcLenWriteIsCheckedThenStored : Obligations.SrcLenWriteIsCheckedThenStored := by
  unfold Obligations.SrcLenWriteIsCheckedThenStored
  intro s rest d hc hin
  have hstep : step s = writeSrcLen d (taken rest s) := step_writeRegister (r := .SRC_LEN) rfl hin
  rw [hstep, writeSrcLen]
  refine ⟨fun ha => if_pos ha, fun ha hd => ?_, fun ha hd => ⟨d.setWidth 25, ?_, ?_⟩⟩
  · rw [if_neg (by simp [ha])]
    exact if_pos hd
  · obtain ⟨-, hcap, -⟩ := hc
    rw [BitVec.toNat_setWidth]
    exact Nat.mod_eq_of_lt (by omega)
  · rw [if_neg (by simp [ha])]
    exact if_neg (Nat.not_lt.mpr hd)

/-! ### The bytes of SRC (R77) -/

/-- Settles O17: outside a session the byte is written, and reads as `srcByte_write` says. -/
theorem srcByteWriteStoresOneByte : Obligations.SrcByteWriteStoresOneByte := by
  unfold Obligations.SrcByteWriteStoresOneByte
  intro s rest i b ⟨_, hcap, _⟩ hi hin
  rw [step_writeSrc hcap hi hin, writeSrc]
  refine ⟨fun ha => if_pos ha, fun ha => ⟨Memory.write s.src i b, if_neg (by simp [ha]), ?_, fun j hj => ?_⟩⟩
  · exact (srcByte_write s i i b).trans (if_pos rfl)
  · exact (srcByte_write s i j b).trans (if_neg hj)

/-! ### The operand registers (R32) -/

/-- Settles O18. -/
theorem operandRegisterWritesStoreTheData : Obligations.OperandRegisterWritesStoreTheData := by
  unfold Obligations.OperandRegisterWritesStoreTheData
  exact fun s rest d =>
    ⟨fun hin => step_writeRegister (r := .X_LO) rfl hin, fun hin => step_writeRegister (r := .X_HI) rfl hin⟩

/-! ### Read-only registers, and DST (R35, R77) -/

/-- The registers that R35 lists as read-only, in the order of their offsets. -/
def readOnlyRegisters : List Reg :=
  [Reg.ID, Reg.VERSION, Reg.ERR_PARAM, Reg.ERR_VALUE, Reg.ERR_MIN, Reg.ERR_MAX, Reg.R_LO, Reg.R_HI, Reg.SRC_CAP,
   Reg.DST_LEN, Reg.DST_CAP, Reg.U_CFG, Reg.U_POS, Reg.U_COUNT, Reg.U_REMAIN, Reg.P_CFG, Reg.P_REM, Reg.P_COUNT,
   Reg.P_BITS]

theorem writeRegister_readOnly {r : Reg} (hr : r ∈ readOnlyRegisters) (d : Word) (s : State) :
    writeRegister r d s = refuse s := by
  cases r
  case CMD | STATUS | X_LO | X_HI | SRC_LEN => simp [readOnlyRegisters] at hr
  all_goals rfl

/-- A write to a read-only register's address is refused, whatever its width. -/
theorem hostWrite_readOnly {r : Reg} (hr : r ∈ readOnlyRegisters) (data : BusData) (s : State) :
    hostWrite (BitVec.ofNat 32 (registerOffset r)) data s = refuse s := by
  cases data with
  | word d => simp only [hostWrite, targetOf_register, writeRegister_readOnly hr]
  | byte | half => simp only [hostWrite, targetOf_register]

/-- A write from the DST region on is refused: DST is read-only to the host, and nothing is mapped above it. -/
theorem hostWrite_high {addr : Word} (h : 0x02000000 ≤ addr.toNat) (data : BusData) (s : State) :
    hostWrite addr data s = refuse s := by
  rcases targetOf_high (c := s.cfg) h with htarget | ⟨i, htarget⟩ <;> simp only [hostWrite, htarget]

/-- Settles O19: the addresses listed are those of the read-only registers. -/
theorem readOnlyWritesAreRefused : Obligations.ReadOnlyWritesAreRefused := by
  unfold Obligations.ReadOnlyWritesAreRefused
  intro s rest addr data hin haddr
  rw [step_hostWrite hin]
  rcases haddr with hlisted | hhigh
  · change addr ∈ readOnlyRegisters.map fun r => BitVec.ofNat 32 (registerOffset r) at hlisted
    obtain ⟨r, hr, rfl⟩ := List.mem_map.mp hlisted
    exact hostWrite_readOnly hr data (taken rest s)
  · exact hostWrite_high hhigh data (taken rest s)

end Sys2Proof.Machine
end

section
/-! Proofs about the resets (R62, R320): every register is 0 and every image that of R35's table. -/

namespace Sys2Proof.Machine

theorem resetOf_zero (c : Config) : RegistersZero (State.resetOf c) := by
  simp [RegistersZero, State.resetOf]

theorem resetOf_sound {c : Config} (hc : c.Valid) : StateSound (State.resetOf c) :=
  sound_of_registersZero (resetOf_zero c) hc (by simp [MemoriesSound, State.resetOf])

/-- Settles O47: no register holds anything, and the memories are empty. -/
theorem resetStateIsSound : Obligations.ResetStateIsSound := by
  unfold Obligations.ResetStateIsSound
  exact ⟨resetOf_zero, fun c => resetOf_sound, resetOf_sound (by decide)⟩

/-- The registers whose reset value is not 0 show the configuration alone (R36, R37, R45). -/
theorem registerImage_constant {r : Reg} (hr : r ∈ [Reg.ID, Reg.VERSION, Reg.SRC_CAP, Reg.DST_CAP]) {s t : State}
    (hcfg : t.cfg = s.cfg) : registerImage r t = registerImage r s := by
  cases r
  case ID | VERSION => rfl
  case SRC_CAP | DST_CAP => simp only [registerImage, hcfg]
  all_goals simp at hr

/-- Every other register shows the fields of the components, so that it reads 0 when they are 0. -/
theorem registerImage_zero {t : State} (hz : RegistersZero t) {r : Reg}
    (hr : r ∉ [Reg.ID, Reg.VERSION, Reg.SRC_CAP, Reg.DST_CAP]) : registerImage r t = 0 := by
  cases r
  case ID | VERSION | SRC_CAP | DST_CAP => simp at hr
  all_goals simp [registerImage, statusImage, uDone, hz]

/-- Settles O8: the step is the hard reset, which leaves no byte listed and no register set. -/
theorem hardResetZeroesRegistersAndDrawsMemories : Obligations.HardResetZeroesRegistersAndDrawsMemories := by
  unfold Obligations.HardResetZeroesRegistersAndDrawsMemories
  intro s rest hin
  have hstep : step s = .next (hardReset (taken rest s)) := by
    rw [step, hin]
    rfl
  refine ⟨_, hstep, hardReset_zero _, rfl, fun i => rfl, fun i => rfl, fun i => dstVisible_of_le (Nat.zero_le i),
    fun r => ?_, fun u hsoft r hr => ?_, rfl, rfl⟩
  · cases r
    case ID | VERSION | SRC_CAP | DST_CAP => rfl
    all_goals exact registerImage_zero (hardReset_zero _) (by decide)
  · obtain rfl := Host.Outcome.next.inj ((execSoftReset_eq s).symm.trans hsoft)
    exact registerImage_constant hr (clearRegisters_cfg s)

end Sys2Proof.Machine
end

section
/-! Proofs about Chunks and one command of a session in a sound state: the size of the chunks (R181, R182), the bounds
of the counters (R48 to R54), the value that UNPACK_NEXT delivers (R187) and the stream that PACK_PUSH leaves (R230). -/

namespace Sys2Proof.Machine

/-! ### Chunks (R181, R182) -/

/-- A chunk of a legal width fits a register. -/
theorem toNat_ofNat_chunk (buffer : Nat → Byte) (L j : Nat) {n : Nat} (hn : n ≤ 32) :
    (BitVec.ofNat 32 (chunk buffer L n j)).toNat = chunk buffer L n j :=
  toNat_ofNat_of_lt ((msbFirst_lt n _).trans_le (Nat.pow_le_pow_right (by decide) hn))

theorem chunkCount_zero {n : Nat} (hn : 1 ≤ n) : chunkCount 0 n = 0 :=
  Nat.div_eq_of_lt (by omega)

/-- Settles O40: a chunk is a number of `n` bits. -/
theorem chunksHaveTheirCountAndWidth : Obligations.ChunksHaveTheirCountAndWidth := by
  unfold Obligations.ChunksHaveTheirCountAndWidth
  intro buffer L n hn1 hn32
  refine ⟨by simp [chunks, chunkCount], fun v hv => ?_, by simp [chunks, chunkCount_zero hn1]⟩
  obtain ⟨j, -, rfl⟩ := List.mem_map.mp hv
  rw [toNat_ofNat_chunk buffer L j hn32]
  exact msbFirst_lt n _

/-! ### The counters (R48, R49, R53, R54) -/

/-- The groups before the cursor all start inside the data, of which each holds at least one bit. -/
theorem uCount_le {s : State} (hs : StateSound s) (ha : s.uActive = true) :
    s.uCount.toNat ≤ 8 * s.srcLen.toNat := by
  have hmul := uPos_eq_mul hs ha
  obtain ⟨hn1, -⟩ := uN_range hs ha
  obtain ⟨-, -, -, -, -, ⟨-, hu⟩, -⟩ := hs
  obtain ⟨-, -, -, -, -, hpos, hzero⟩ := hu ha
  by_contra hmany
  have hpast : (8 * s.srcLen.toNat + 1) * s.uN.toNat ≤ s.uPos.toNat :=
    hmul ▸ Nat.mul_le_mul_right _ (Nat.lt_of_not_le hmany)
  have hdata : 8 * s.srcLen.toNat ≤ 8 * s.srcLen.toNat * s.uN.toNat := Nat.le_mul_of_pos_right _ hn1
  rw [Nat.succ_mul] at hpast
  omega

/-- Each value pushed has at least one bit. -/
theorem pCount_le {s : State} (hs : StateSound s) (ha : s.pActive = true) : s.pCount.toNat ≤ s.pBits.toNat :=
  pBits_eq_mul hs ha ▸ Nat.le_mul_of_pos_right _ (pN_range hs ha).1

/-- Settles O49: the counters count groups of at least one bit, and the bits are those of a buffer of at most `2^24`
bytes. -/
theorem countersNeverWrap : Obligations.CountersNeverWrap := by
  unfold Obligations.CountersNeverWrap
  refine fun s hs => ⟨fun ha => ⟨uPos_lt hs ha, ?_⟩, fun ha => ⟨pBits_lt hs ha, ?_⟩⟩
  · have hcount := uCount_le hs ha
    obtain ⟨⟨-, hcap, -⟩, -, ⟨hlen, -⟩, -⟩ := hs
    omega
  · have hcount := pCount_le hs ha
    have hbits := pBits_lt hs ha
    omega

/-! ### UNPACK_NEXT (R187, R190) -/

/-- Settles O50: a group is left at the cursor exactly while U_COUNT is below the number of chunks. -/
theorem unpackNextDeliversTheNextChunk : Obligations.UnpackNextDeliversTheNextChunk := by
  unfold Obligations.UnpackNextDeliversTheNextChunk
  intro s hs ha
  change ∃ t, _ ∧ (_ ↔ s.uCount.toNat < chunkCount s.srcLen.toNat s.uN.toNat) ∧ _
  rw [← uPos_lt_data_iff hs ha]
  rcases Nat.lt_or_ge s.uPos.toNat (8 * s.srcLen.toNat) with hleft | hdone
  · obtain ⟨-, hn32⟩ := uN_range hs ha
    refine ⟨_, execUnpackNext_of_lt ha hleft, iff_of_true rfl hleft, fun _ => ⟨uCount_succ hs ha hleft, ?_⟩, nofun⟩
    change (groupAtCursor s).toNat = _
    rw [groupAtCursor_eq_chunk hs ha, toNat_ofNat_chunk _ _ _ hn32]
  · exact ⟨_, execUnpackNext_of_le ha hdone, iff_of_false nofun (Nat.not_lt.mpr hdone), nofun, fun _ => ⟨rfl, rfl⟩⟩

/-! ### PACK_PUSH (R230) -/

/-- A push that reports no error had an open session. -/
theorem pActive_of_execPackPush_ok {s t : State} (h : execPackPush s = .next t) (hok : t.err = 0) :
    s.pActive = true := by
  by_contra hidle
  obtain rfl := Host.Outcome.next.inj ((execPackPush_of_idle (by simpa using hidle)).symm.trans h)
  simp at hok

/-- Settles O52: a push that reports no error is one of an open session, and fits. -/
theorem packPushAppendsToTheStream : Obligations.PackPushAppendsToTheStream := by
  unfold Obligations.PackPushAppendsToTheStream
  intro s t v hs hv h hok
  obtain ⟨hfits, rfl⟩ := eq_of_execPackPush_ok h hok
  exact holdsTheStreamOf_pushed hs (pActive_of_execPackPush_ok h hok) hfits hv

end Sys2Proof.Machine
end
